-- ==== Sys2Proof/Word.lean ====
section
/-! DEFINITION. The words of the NH440: the bytes of its serial line and the 16-bit frame check (R186, R187). -/

namespace Sys2Proof

/-- One byte of the serial line (R186). -/
abbrev Byte := BitVec 8

/-- The frame check register (R187). -/
abbrev Check := BitVec 16

end Sys2Proof
end

