-- ==== Sys2Proof/Config.lean ====
section
/-! DEFINITION. What is fixed for the part (capacities) and what the manual leaves free (upsets of the slot memory). -/

namespace Sys2Proof

/-- A slot address: (carousel, carrier, column), Names and numbering of 00_scope. -/
structure SlotAddr where
  carousel : Fin 4
  carrier  : Nat
  column   : Nat
  deriving DecidableEq, Repr

/-- What a slot holds: the position of its article record and the production week (table of 1.3).
The week is present exactly when the article is, so the two stand together. -/
structure Held where
  article : Nat
  week    : Nat
  deriving DecidableEq, Repr

/-- The fields of a slot record as an uncorrectable fault leaves them to be read (R16): any values, the article and the week
each present or absent on its own. -/
structure RawRecord where
  article  : Option Nat
  week     : Option Nat
  count    : Nat
  resOut   : Nat
  resIn    : Nat
  due      : Bool
  disputed : Bool
  suspect  : Bool
  deriving DecidableEq, Repr

/-- Whether a record's stored fields and its integrity code agree, and how far they disagree
(section 1.4): in agreement, correctable, or uncorrectable with the fields that will be read. -/
inductive Damage where
  | sound
  | correctable
  | uncorrectable (asRead : RawRecord)
  deriving DecidableEq, Repr

/-- An upset of the slot memory: which record it strikes and what it leaves there. -/
structure Upset where
  slot   : SlotAddr
  damage : Damage
  deriving DecidableEq, Repr

namespace Config

/-- Entries of one task queue (R71). -/
def queueDepth : Nat := 32
/-- Notices the notice queue holds (R195). -/
def noticeDepth : Nat := 48
/-- Frames the receive queue holds (R189). -/
def receiveDepth : Nat := 4
/-- LINK-FULL replies the reply path holds (R189, R194). -/
def linkFullDepth : Nat := 4
/-- Entries of the discrepancy list (R175). -/
def listDepth : Nat := 64
/-- The highest work sequence number (R70). -/
def workSeqMax : Nat := 4294967295

/-- FREE VALUE (log 7): whether, at the given idle millisecond, the slot memory is struck, where, and what
is then stored. Section 1.4 calls such a fault an event of the memory and gives it no cause. -/
opaque memoryUpset : Nat → Option Upset

/-- FREE VALUE (log 25): the week that the repair of a record keeps, at the given idle millisecond, where the article read is
kept and no week was read. R16 keeps the article with the week as read and says no more. -/
opaque weekNotRead : Nat → BitVec 16

end Config
end Sys2Proof
end

