-- ==== Sys2Proof/Syntax.lean ====
section
/-! DEFINITION. The commands of the NH440: one constructor for each row of spec/opcode_table.json.

Request rows carry the tag (R192) and the fields of the request body as received (R191), unchecked: a field
out of its range is answered BAD-VALUE by the owning rule, so operands are plain numbers. Event rows carry the
input they come from. -/

namespace Sys2Proof

/-- One line of an ORDER request (R199). -/
structure LineArg where
  article  : Nat
  quantity : Nat
  set      : Nat
  deriving DecidableEq, Repr

/-- One decision of a RESOLVE request (R179, R191): the slot is on the request's carousel; article 0 is
absent, and the week that follows an absent article is not read. -/
structure DecisionArg where
  carrier  : Nat
  column   : Nat
  decision : Nat
  article  : Nat
  week     : Nat
  deriving DecidableEq, Repr

/-- The eight values of a SET-LIMITS request, before clamping (R40). -/
structure LimitArgs where
  driveLimit   : Nat
  balanceLimit : Nat
  carrierMax   : Nat
  pulseTimeout : Nat
  starveMode   : Nat
  starveLimit  : Nat
  holdTimeout  : Nat
  verify       : Nat
  deriving DecidableEq, Repr

/-- The commands. Each docstring names the row and its rule. -/
inductive Instr where
  /-- POWER_ON (R197), with the levels of the two rate straps (R186). -/
  | powerOn (strap1 strap0 : Bool)
  /-- RESET_PIN (R197), with the levels of the two rate straps. -/
  | resetPin (strap1 strap0 : Bool)
  /-- FRAME_RECEIVED (R189): the kind, tag and body bytes of the frame and its check as received. -/
  | frameReceived (content : List Byte) (check : Check)
  /-- GAP_TIMEOUT (R188). -/
  | gapTimeout
  /-- DISPATCH (R190). -/
  | dispatch
  /-- TRANSMIT_FRAME (R194). -/
  | transmitFrame
  /-- FRAME_SENT (R194). -/
  | frameSent
  /-- STATUS (R196). -/
  | status (tag : Nat)
  /-- RESET (R197). -/
  | reset (tag : Nat)
  /-- RESET_EFFECT (R197). -/
  | resetEffect
  /-- SET_CAROUSEL (R46): carousel, N, S, A (`columnCount` is S) and the (class, capacity) of each column. -/
  | setCarousel (tag carousel n columnCount a : Nat) (columns : List (Nat × Nat))
  /-- SET_LIMITS (R40). -/
  | setLimits (tag carousel : Nat) (limits : LimitArgs)
  /-- LOCK_ZONE (R18). -/
  | lockZone (tag carousel first last kind : Nat)
  /-- CLEAR_ZONE (R19). -/
  | clearZone (tag carousel entry : Nat)
  /-- HOME (R48). -/
  | home (tag carousel : Nat)
  /-- CLOSE (R47). -/
  | close (tag carousel : Nat)
  /-- RESUME (R51). -/
  | resume (tag carousel : Nat)
  /-- CONFIRM_DONE (R66): a CONFIRM with outcome DONE. -/
  | confirmDone (tag carousel : Nat)
  /-- CONFIRM_FAULT (R66): a CONFIRM with outcome FAULT. -/
  | confirmFault (tag carousel : Nat)
  /-- READ_QUEUE (R73), with the first item of R193. -/
  | readQueue (tag carousel firstItem : Nat)
  /-- READ_BALANCE (R42): part 0 LOADS, 1 IMBALANCE. -/
  | readBalance (tag carousel part : Nat)
  /-- READ_GAUGE (R162). -/
  | readGauge (tag carousel : Nat)
  /-- DEFINE_CLASS (R5). -/
  | defineClass (tag cls width : Nat)
  /-- DEFINE_ARTICLE (R7, R8). -/
  | defineArticle (tag code cls width mass maxAge : Nat)
  /-- DROP_ARTICLE (R9). -/
  | dropArticle (tag code : Nat)
  /-- LOAD_SLOT (R20): article 0 is absent, and its week is then not read (R191). -/
  | loadSlot (tag carousel carrier column article week count : Nat)
  /-- READ_SLOT (R21). -/
  | readSlot (tag carousel carrier column : Nat)
  /-- READ_STOCK (R22), with the optional starting (carousel, carrier, column). -/
  | readStock (tag code : Nat) (start : Option (Nat × Nat × Nat))
  /-- STORE (R93): target 0..3 for A..D, 4 for ANY. -/
  | store (tag code week quantity target : Nat)
  /-- DROP_STORE (R101). -/
  | dropStore (tag number : Nat)
  /-- READ_STORE (R107), with the first item of R193. -/
  | readStore (tag : Nat) (number : Option Nat) (firstItem : Nat)
  /-- ORDER (R112). -/
  | order (tag code priority : Nat) (lines : List LineArg)
  /-- CANCEL (R124, R125). -/
  | cancel (tag code : Nat)
  /-- READ_ORDER (R131), with the first item of R193. -/
  | readOrder (tag : Nat) (code : Option Nat) (firstItem : Nat)
  /-- SET_WEEK (R110). -/
  | setWeek (tag week : Nat)
  /-- SET_POLICY_SET_SPREAD (R111). -/
  | setPolicySetSpread (tag value : Nat)
  /-- SET_POLICY_CANCEL_MODE (R111): 0 WITHDRAW, 1 COMPLETE. -/
  | setPolicyCancelMode (tag value : Nat)
  /-- SET_POLICY_LANE_CAP (R146). -/
  | setPolicyLaneCap (tag value : Nat)
  /-- SET_POLICY_TRANSIT_TIMEOUT (R146). -/
  | setPolicyTransitTimeout (tag value : Nat)
  /-- SET_POLICY_GAUGE_SPAN (R149). -/
  | setPolicyGaugeSpan (tag value : Nat)
  /-- CLEAR_LANE (R143). -/
  | clearLane (tag lane : Nat)
  /-- READ_LANES (R147). -/
  | readLanes (tag : Nat)
  /-- AUDIT_SWEEP (R164, R165): the carriers of the range, each present or absent. -/
  | auditSweep (tag carousel : Nat) (first last : Option Nat)
  /-- AUDIT_SUSPECT (R164, R169): a range carried with this kind is refused, so it stands here too. -/
  | auditSuspect (tag carousel : Nat) (first last : Option Nat)
  /-- STOP_AUDIT (R170). -/
  | stopAudit (tag carousel : Nat)
  /-- READ_REPORT (R178), with the first item of R193. -/
  | readReport (tag carousel firstItem : Nat)
  /-- RESOLVE (R179). -/
  | resolve (tag carousel generation : Nat) (decisions : List DecisionArg)
  /-- PULSE (R54). -/
  | pulse (carousel : Fin 4)
  /-- HOME_EDGE (R56). -/
  | homeEdge (carousel : Fin 4)
  /-- DONE_KEY (R66). -/
  | doneKey (carousel : Fin 4)
  /-- FAULT_KEY (R66). -/
  | faultKey (carousel : Fin 4)
  /-- ESTOP_ASSERT (R60). -/
  | estopAssert
  /-- ESTOP_RELEASE (R61). -/
  | estopRelease
  /-- ARRIVE (R139). -/
  | arrive (lane : Fin 8)
  /-- CLEAR_KEY (R143). -/
  | clearKey (lane : Fin 8)
  /-- PULSE_TIMER_EXPIRY (R55). -/
  | pulseTimerExpiry (carousel : Fin 4)
  /-- HOLD_TIMER_EXPIRY (R81): the PICK is named by its place in the carousel's queue, 0 at the head. -/
  | holdTimerExpiry (carousel : Fin 4) (place : Nat)
  /-- TRANSIT_TIMER_EXPIRY (R138). -/
  | transitTimerExpiry (lane : Fin 8)
  /-- CONVERSION_COMPLETE (R151), with the converter's code (R152). -/
  | conversionComplete (carousel : Fin 4) (code : Nat)
  /-- RECEIVED_BYTE (R188), with whether its stop bit was at the wrong level (R186). -/
  | receivedByte (byte : Byte) (framingError : Bool)
  deriving DecidableEq, Repr

end Sys2Proof
end

