-- ==== Sys2Proof/WellFormed.lean ====
section
/-! DEFINITION. Which commands are well formed: every operand fits the field that carries it (R187, R191), so
that a request frame could carry it. A command that is not well formed still has a meaning: a value that
does not fit its field counts as outside the field's range (R191). -/

namespace Sys2Proof.WellFormed

/-- A one-byte field holds the value (R191). -/
def byte (n : Nat) : Bool := n < 256
/-- A two-byte field holds the value (R191). -/
def half (n : Nat) : Bool := n < 65536
/-- A three-byte field holds the value (R191). -/
def triple (n : Nat) : Bool := n < 16777216
/-- An optional one-byte field. -/
def optByte : Option Nat → Bool
  | none => true
  | some n => byte n
/-- The carrier bytes of an AUDIT range: a body of three bytes holds only the first (R190, R191). -/
def range (first last : Option Nat) : Bool :=
  optByte first && optByte last && (first.isSome || last.isNone)
/-- The lines of an ORDER body: at most 61 (R190), each of two, one and one bytes (R199). -/
def lines (ls : List LineArg) : Bool :=
  ls.length ≤ 61 && ls.all fun l => half l.article && byte l.quantity && byte l.set
/-- The decisions of a RESOLVE body: at most 35 (R190). -/
def decisions (ds : List DecisionArg) : Bool :=
  ds.length ≤ 35 && ds.all fun d =>
    byte d.carrier && byte d.column && byte d.decision && half d.article && half d.week
/-- The column table of a SET-CAROUSEL body: at most 6 columns (R190). -/
def columns (cs : List (Nat × Nat)) : Bool :=
  cs.length ≤ 6 && cs.all fun c => byte c.1 && byte c.2
/-- The values of a SET-LIMITS body (R191). -/
def limits (l : LimitArgs) : Bool :=
  triple l.driveLimit && triple l.balanceLimit && triple l.carrierMax && triple l.pulseTimeout
    && byte l.starveMode && byte l.starveLimit && triple l.holdTimeout && byte l.verify
/-- The kind, tag and body bytes of one frame: 2 to 250 of them (R187). -/
def content (bs : List Byte) : Bool := 2 ≤ bs.length && bs.length ≤ 250
/-- A converter code (R152). -/
def code (n : Nat) : Bool := n ≤ 1023
/-- A place in a task queue (R71). -/
def place (n : Nat) : Bool := n < Config.queueDepth
/-- A starting slot address (R191). -/
def start : Option (Nat × Nat × Nat) → Bool
  | none => true
  | some (k, c, j) => byte k && byte c && byte j

/-- The check of a whole command. -/
def instr : Instr → Bool
  | .powerOn _ _ => true
  | .resetPin _ _ => true
  | .frameReceived bs _ => content bs
  | .gapTimeout => true
  | .dispatch => true
  | .transmitFrame => true
  | .frameSent => true
  | .status tag => byte tag
  | .reset tag => byte tag
  | .resetEffect => true
  | .setCarousel tag k n s a cols => byte tag && byte k && byte n && byte s && byte a && columns cols
  | .setLimits tag k l => byte tag && byte k && limits l
  | .lockZone tag k f l z => byte tag && byte k && byte f && byte l && byte z
  | .clearZone tag k e => byte tag && byte k && byte e
  | .home tag k => byte tag && byte k
  | .close tag k => byte tag && byte k
  | .resume tag k => byte tag && byte k
  | .confirmDone tag k => byte tag && byte k
  | .confirmFault tag k => byte tag && byte k
  | .readQueue tag k f => byte tag && byte k && byte f
  | .readBalance tag k p => byte tag && byte k && byte p
  | .readGauge tag k => byte tag && byte k
  | .defineClass tag c w => byte tag && byte c && half w
  | .defineArticle tag code c w m a => byte tag && half code && byte c && half w && half m && half a
  | .dropArticle tag code => byte tag && half code
  | .loadSlot tag k c j a w n => byte tag && byte k && byte c && byte j && half a && half w && byte n
  | .readSlot tag k c j => byte tag && byte k && byte c && byte j
  | .readStock tag code s => byte tag && half code && start s
  | .store tag code w q t => byte tag && half code && half w && byte q && byte t
  | .dropStore tag n => byte tag && byte n
  | .readStore tag n f => byte tag && optByte n && byte f
  | .order tag code p ls => byte tag && half code && byte p && lines ls
  | .cancel tag code => byte tag && half code
  | .readOrder tag code f => byte tag && (code.all half) && byte f
  | .setWeek tag w => byte tag && half w
  | .setPolicySetSpread tag v => byte tag && half v
  | .setPolicyCancelMode tag v => byte tag && half v
  | .setPolicyLaneCap tag v => byte tag && half v
  | .setPolicyTransitTimeout tag v => byte tag && half v
  | .setPolicyGaugeSpan tag v => byte tag && half v
  | .clearLane tag l => byte tag && byte l
  | .readLanes tag => byte tag
  | .auditSweep tag k f l => byte tag && byte k && range f l
  | .auditSuspect tag k f l => byte tag && byte k && range f l
  | .stopAudit tag k => byte tag && byte k
  | .readReport tag k f => byte tag && byte k && byte f
  | .resolve tag k g ds => byte tag && byte k && half g && decisions ds
  | .pulse _ => true
  | .homeEdge _ => true
  | .doneKey _ => true
  | .faultKey _ => true
  | .estopAssert => true
  | .estopRelease => true
  | .arrive _ => true
  | .clearKey _ => true
  | .pulseTimerExpiry _ => true
  | .holdTimerExpiry _ n => place n
  | .transitTimerExpiry _ => true
  | .conversionComplete _ n => code n
  | .receivedByte _ _ => true

end Sys2Proof.WellFormed
end

