-- ==== Sys2Proof/Decode.lean ====
section
/-! DEFINITION. Reading commands from bits and bytes: `decodeTableWord` over the opcode table's bits, and the
reading of a dispatched request frame into its command (R190, R191, R199). -/

namespace Sys2Proof

/-- The command a word spells by the bits of spec/opcode_table.json. No row of that table gives bits, so no
word spells a command. -/
def decodeTableWord (_nbits _w : Nat) : Option Instr := none

/-- What the Link Controller makes of a dispatched frame (R190): a kind or body length it does not allow,
a request whose very name its enumerated byte does not settle (R111, R66, R164: BAD-VALUE), or a request. -/
inductive Decoded where
  | badForm
  | badValue
  | request (i : Instr)
  deriving DecidableEq, Repr

/-- A 16-bit field, high byte first. -/
def half (hi lo : Nat) : Nat := hi * 256 + lo

/-- A 24-bit field, high byte first. -/
def triple (hi mid lo : Nat) : Nat := (hi * 256 + mid) * 256 + lo

/-- The column table that ends a SET-CAROUSEL body: two bytes a column (R191). -/
def readColumns : List Nat → Option (List (Nat × Nat))
  | [] => some []
  | c :: cap :: rest => (readColumns rest).map ((c, cap) :: ·)
  | _ => none

/-- The lines that end an ORDER body: four bytes a line (R199). -/
def readLines : List Nat → Option (List LineArg)
  | [] => some []
  | a1 :: a0 :: q :: m :: rest => (readLines rest).map (⟨half a1 a0, q, m⟩ :: ·)
  | _ => none

/-- The decisions that end a RESOLVE body: seven bytes a decision (R191). -/
def readDecisions : List Nat → Option (List DecisionArg)
  | [] => some []
  | c :: j :: d :: a1 :: a0 :: w1 :: w0 :: rest =>
    (readDecisions rest).map (⟨c, j, d, half a1 a0, half w1 w0⟩ :: ·)
  | _ => none

/-- A list that fits its bound and was read whole, made into a request; else BAD-FORM (R190). -/
def boundedList {α : Type} (most : Nat) (xs : Option (List α)) (make : List α → Instr) : Decoded :=
  match xs with
  | some l => if l.length ≤ most then .request (make l) else .badForm
  | none => .badForm

/-- SET-POLICY: the item byte chooses the policy (R111, R191); an item that is none of the five is BAD-VALUE. -/
def readPolicy (tag item v : Nat) : Decoded :=
  match item with
  | 0 => .request (.setPolicySetSpread tag v)
  | 1 => .request (.setPolicyCancelMode tag v)
  | 2 => .request (.setPolicyLaneCap tag v)
  | 3 => .request (.setPolicyTransitTimeout tag v)
  | 4 => .request (.setPolicyGaugeSpan tag v)
  | _ => .badValue

/-- CONFIRM: the outcome byte (R66, R191). -/
def readConfirm (tag k outcome : Nat) : Decoded :=
  match outcome with
  | 0 => .request (.confirmDone tag k)
  | 1 => .request (.confirmFault tag k)
  | _ => .badValue

/-- AUDIT: the kind byte (R164, R191). -/
def readAudit (tag k kind : Nat) (first last : Option Nat) : Decoded :=
  match kind with
  | 0 => .request (.auditSweep tag k first last)
  | 1 => .request (.auditSuspect tag k first last)
  | _ => .badValue

/-- SET-LIMITS: nineteen bytes (R190, R191). -/
def readLimits (tag : Nat) : List Nat → Decoded
  | [k, d2, d1, d0, b2, b1, b0, c2, c1, c0, p2, p1, p0, m, l, h2, h1, h0, v] =>
    .request (.setLimits tag k ⟨triple d2 d1 d0, triple b2 b1 b0, triple c2 c1 c0, triple p2 p1 p0, m, l,
      triple h2 h1 h0, v⟩)
  | _ => .badForm

/-- The kinds 0x01 to 0x0D: the Link Controller's, the Drive Controller's and the reads beside them. -/
def decodeDrive (kind tag : Nat) (body : List Nat) : Decoded :=
  match kind, body with
  | 0x01, [] => .request (.status tag)
  | 0x02, [] => .request (.reset tag)
  | 0x03, k :: n :: s :: a :: cols => boundedList 6 (readColumns cols) (.setCarousel tag k n s a)
  | 0x04, b => readLimits tag b
  | 0x05, [k, f, l, z] => .request (.lockZone tag k f l z)
  | 0x06, [k, e] => .request (.clearZone tag k e)
  | 0x07, [k] => .request (.home tag k)
  | 0x08, [k] => .request (.close tag k)
  | 0x09, [k] => .request (.resume tag k)
  | 0x0A, [k, o] => readConfirm tag k o
  | 0x0B, [k] => .request (.readQueue tag k 0)
  | 0x0B, [k, f] => .request (.readQueue tag k f)
  | 0x0C, [k, p] => .request (.readBalance tag k p)
  | 0x0D, [k] => .request (.readGauge tag k)
  | _, _ => .badForm

/-- The kinds 0x10 to 0x1A: tables, slots and put-away. -/
def decodeStock (kind tag : Nat) (body : List Nat) : Decoded :=
  match kind, body with
  | 0x10, [c, w1, w0] => .request (.defineClass tag c (half w1 w0))
  | 0x11, [a1, a0, c, w1, w0, m1, m0, g1, g0] =>
    .request (.defineArticle tag (half a1 a0) c (half w1 w0) (half m1 m0) (half g1 g0))
  | 0x12, [a1, a0] => .request (.dropArticle tag (half a1 a0))
  | 0x13, [k, c, j, a1, a0, w1, w0, n] => .request (.loadSlot tag k c j (half a1 a0) (half w1 w0) n)
  | 0x14, [k, c, j] => .request (.readSlot tag k c j)
  | 0x15, [a1, a0] => .request (.readStock tag (half a1 a0) none)
  | 0x15, [a1, a0, k, c, j] => .request (.readStock tag (half a1 a0) (some (k, c, j)))
  | 0x18, [a1, a0, w1, w0, q, t] => .request (.store tag (half a1 a0) (half w1 w0) q t)
  | 0x19, [n] => .request (.dropStore tag n)
  | 0x1A, [] => .request (.readStore tag none 0)
  | 0x1A, [n] => .request (.readStore tag (some n) 0)
  | 0x1A, [n, f] => .request (.readStore tag (some n) f)
  | _, _ => .badForm

/-- The kinds 0x20 to 0x33: orders, lanes and audits. -/
def decodeWork (kind tag : Nat) (body : List Nat) : Decoded :=
  match kind, body with
  | 0x20, c1 :: c0 :: p :: ls => boundedList 61 (readLines ls) (.order tag (half c1 c0) p)
  | 0x21, [c1, c0] => .request (.cancel tag (half c1 c0))
  | 0x22, [] => .request (.readOrder tag none 0)
  | 0x22, [f] => .request (.readOrder tag none f)
  | 0x22, [c1, c0] => .request (.readOrder tag (some (half c1 c0)) 0)
  | 0x22, [c1, c0, f] => .request (.readOrder tag (some (half c1 c0)) f)
  | 0x23, [w1, w0] => .request (.setWeek tag (half w1 w0))
  | 0x24, [item, v1, v0] => readPolicy tag item (half v1 v0)
  | 0x28, [l] => .request (.clearLane tag l)
  | 0x29, [] => .request (.readLanes tag)
  | 0x30, [k, kd] => readAudit tag k kd none none
  | 0x30, [k, kd, f] => readAudit tag k kd (some f) none
  | 0x30, [k, kd, f, l] => readAudit tag k kd (some f) (some l)
  | 0x31, [k] => .request (.stopAudit tag k)
  | 0x32, [k] => .request (.readReport tag k 0)
  | 0x32, [k, f] => .request (.readReport tag k f)
  | 0x33, k :: g1 :: g0 :: ds => boundedList 35 (readDecisions ds) (.resolve tag k (half g1 g0))
  | _, _ => .badForm

/-- A dispatched frame read by the table of R190 and the widths of R191. -/
def decodeRequest (kind tag : Nat) (body : List Byte) : Decoded :=
  if kind < 0x10 then decodeDrive kind tag (body.map BitVec.toNat)
  else if kind < 0x20 then decodeStock kind tag (body.map BitVec.toNat)
  else decodeWork kind tag (body.map BitVec.toNat)

end Sys2Proof
end

