-- ==== Sys2Proof/Machine/State.lean ====
section
/-! DEFINITION. The state of the NH440 as plain data, the ways a step can stop, and the state after power-on. -/

namespace Sys2Proof.Machine

/-- A fault would stop the machine. The NH440 has none: carousel faults (R59), integrity faults (R15, R16)
and refused requests (R192) are effects on the state, so this type has no constructor. -/
inductive Fault where
  deriving DecidableEq, Repr

/-- A command without a meaning in this model. -/
inductive Refusal where
  /-- Raised by an arm of `exec` whose command has no meaning yet. Safe: the run stops. No arm raises it. -/
  | notModelled (mnemonic : String)
  deriving DecidableEq, Repr

/-! ## Slots, articles and zones (chapter 1) -/

/-- One entry of a column table (R2). -/
structure Column where
  cls : Nat
  cap : Nat
  deriving DecidableEq, Repr

/-- The geometry of a carousel (R2): N, S, A and the column table. Unconfigured: all 0 and empty. -/
structure Geometry where
  n       : Nat
  s       : Nat
  a       : Nat
  columns : List Column
  deriving DecidableEq, Repr

/-- An article record (R6). -/
structure Article where
  code   : Nat
  cls    : Nat
  width  : Nat
  mass   : Nat
  maxAge : Nat
  deriving DecidableEq, Repr

/-- A slot record (table of 1.3). `damage` says whether the stored fields and the integrity code agree;
the other fields are the record as it was last written. -/
structure Slot where
  held     : Option Held
  count    : Nat
  resOut   : Nat
  resIn    : Nat
  due      : Bool
  disputed : Bool
  suspect  : Bool
  damage   : Damage
  deriving DecidableEq, Repr

/-- An empty slot record (R4). -/
def Slot.empty : Slot := ⟨none, 0, 0, 0, false, false, false, .sound⟩

/-- The kinds of zone lock (R17). -/
inductive ZoneKind where
  | noStore
  | noHandle
  deriving DecidableEq, Repr

/-- A used zone-lock entry (R17). -/
structure Zone where
  first : Nat
  last  : Nat
  kind  : ZoneKind
  deriving DecidableEq, Repr

/-! ## Carousels (chapters 2, 3) -/

/-- The starvation modes (R39). -/
inductive StarveMode where
  | off
  | priority
  | hold
  deriving DecidableEq, Repr

/-- The eight limits of a carousel (R39). -/
structure Limits where
  driveLimit   : Nat
  balanceLimit : Nat
  carrierMax   : Nat
  pulseTimeout : Nat
  starveMode   : StarveMode
  starveLimit  : Nat
  holdTimeout  : Nat
  verify       : Bool
  deriving DecidableEq, Repr

/-- The limits after power-on and the RESET pin (R39). -/
def Limits.initial : Limits := ⟨20000, 15000, 20000, 2000, .off, 4, 30000, false⟩

/-- The states of a carousel (R44), in the order R44 lists them. -/
inductive CarouselState where
  | offline
  | homing
  | idle
  | moving
  | presenting
  | fault
  | stopped
  deriving DecidableEq, Repr

/-- The phases of a presentation (R44). -/
inductive Phase where
  | none
  | counting
  | handling
  | verifying
  deriving DecidableEq, Repr

/-- The directions of running (R44). -/
inductive Direction where
  | forward
  | reverse
  deriving DecidableEq, Repr

/-- The causes of a carousel fault (R59). -/
inductive FaultCause where
  | homeFail
  | stall
  | drift
  deriving DecidableEq, Repr

/-- A running pulse supervision timer (R55): its period and the milliseconds left. -/
structure Supervision where
  period : Nat
  left   : Nat
  deriving DecidableEq, Repr

/-! ## Tasks (chapter 4) -/

/-- The owner of a task (R68): a line of an order record (a PICK) or a store record (a PLACE), by position. -/
inductive Owner where
  | pick (order : Fin 32) (line : Nat)
  | place (store : Fin 16)
  deriving DecidableEq, Repr

/-- The states of a task (R68). -/
inductive TaskState where
  | unreleased
  | queued
  | shown
  | withdrawn
  deriving DecidableEq, Repr

/-- A task (R68). `id` is the model's own serial number, which tells apart two tasks of one owner, line and slot
and keeps the order in which they were written; `week` is the week of the pick entry (R109). -/
structure Task where
  id       : Nat
  owner    : Owner
  slot     : SlotAddr
  quantity : Nat
  week     : Nat
  state    : TaskState
  skip     : Nat
  starving : Option Nat
  deriving DecidableEq, Repr

/-! ## Gauge Units (chapter 8) -/

/-- What a measurement is for (R150). -/
inductive Purpose where
  | count
  | verify
  deriving DecidableEq, Repr

/-- The states of a Gauge Unit (R148). -/
inductive GaugeState where
  | idle
  | settling
  | converting
  deriving DecidableEq, Repr

/-- The conversion the converter is running (R148). -/
inductive InFlight where
  | none
  | first
  | second
  | orphaned
  deriving DecidableEq, Repr

/-- A measurement in progress (R148). -/
structure Measurement where
  slot    : SlotAddr
  purpose : Purpose
  deriving DecidableEq, Repr

/-- Where the width of an estimate came from (R153). -/
inductive WidthSource where
  | article
  | cls
  deriving DecidableEq, Repr

/-- Why a measurement was abandoned (R159). -/
inductive AbandonCause where
  | estop
  | drift
  | reset
  deriving DecidableEq, Repr

/-- The figures of a completed measurement (R156). -/
structure Estimate where
  code       : Nat
  height     : Nat
  span       : Nat
  width      : Nat
  source     : WidthSource
  capacity   : Nat
  estimate   : Nat
  overheight : Bool
  deriving DecidableEq, Repr

/-- The outcome of a measurement: COMPLETED with its figures (R156) or ABANDONED with its cause (R159). -/
inductive GaugeOutcome where
  | completed (e : Estimate)
  | abandoned (cause : AbandonCause)
  deriving DecidableEq, Repr

/-- A last result (R156, R159). -/
structure GaugeResult where
  slot    : SlotAddr
  purpose : Purpose
  outcome : GaugeOutcome
  deriving DecidableEq, Repr

/-- A Gauge Unit (R148). -/
structure Gauge where
  state    : GaugeState
  measure  : Option Measurement
  column   : Option Nat
  inFlight : InFlight
  last     : Option GaugeResult
  deriving DecidableEq, Repr

/-- A Gauge Unit at power-on (R148). -/
def Gauge.initial : Gauge := ⟨.idle, none, none, .none, none⟩

/-! ## Audits (chapter 9) -/

/-- An open sweep (R163). -/
structure Sweep where
  first     : Nat
  last      : Nat
  cursor    : Nat
  remaining : Nat
  marks     : List Nat
  deriving DecidableEq, Repr

/-- An audit record's state and kind (R163). -/
inductive Audit where
  | none
  | sweep (w : Sweep)
  | suspect
  deriving DecidableEq, Repr

/-- The origin of a discrepancy entry (R173, R174, R201). -/
inductive Origin where
  | sweep
  | verify
  | suspect
  | phantom
  deriving DecidableEq, Repr

/-- A discrepancy entry (R173): article code and week stand together, as in the record. -/
structure Entry where
  slot       : SlotAddr
  origin     : Origin
  stock      : Option (Nat × Nat)
  recorded   : Nat
  measured   : Nat
  overheight : Bool
  deriving DecidableEq, Repr

/-- All that the part keeps for one carousel: geometry (R2), limits (R39), staged limits and live state (R44),
zone locks (R17), slot records by address (R4), loads, peaks, arming mark and creep flag (R24), task queue (R71),
Gauge Unit (R148), handled slots not yet verified (R67), audit record (R163) and generation (R177). -/
structure Carousel where
  geometry    : Geometry
  limits      : Limits
  staged      : Option Limits
  zones       : Vector (Option Zone) 4
  state       : CarouselState
  offset      : Nat
  known       : Bool
  direction   : Direction
  target      : Option Nat
  remaining   : Nat
  presented   : Option Nat
  phase       : Phase
  homingCount : Nat
  supervision : Option Supervision
  cause       : Option FaultCause
  creep       : Bool
  slots       : List Slot
  phys        : List Nat
  proj        : List Nat
  physPeak    : Nat
  projPeak    : Nat
  armed       : Bool
  queue       : List Task
  gauge       : Gauge
  unverified  : List Nat
  audit       : Audit
  found       : Nat
  generation  : Nat
  deriving DecidableEq, Repr

/-- A carousel at power-on (R2, R17, R24, R38, R39, R44, R90, R148, R163, R177). -/
def Carousel.initial : Carousel where
  geometry := ⟨0, 0, 0, []⟩
  limits := Limits.initial
  staged := none
  zones := Vector.replicate 4 none
  state := .offline
  offset := 0
  known := false
  direction := .forward
  target := none
  remaining := 0
  presented := none
  phase := .none
  homingCount := 0
  supervision := none
  cause := none
  creep := false
  slots := []
  phys := []
  proj := []
  physPeak := 0
  projPeak := 0
  armed := true
  queue := []
  gauge := Gauge.initial
  unverified := []
  audit := .none
  found := 0
  generation := 0

/-! ## Stores, orders and lanes (chapters 5, 6, 7) -/

/-- The states of a store record (R91). -/
inductive StoreState where
  | opened
  | closing
  deriving DecidableEq, Repr

/-- A placement entry of a store (R91). -/
structure Placement where
  slot      : SlotAddr
  placed    : Nat
  confirmed : Nat
  deriving DecidableEq, Repr

/-- A store record (R91); `target` absent is ANY. -/
structure Store where
  number     : Nat
  seq        : Nat
  article    : Nat
  week       : Nat
  target     : Option (Fin 4)
  quantity   : Nat
  state      : StoreState
  placements : List Placement
  deriving DecidableEq, Repr

/-- The states of an order record (R108). -/
inductive OrderState where
  | pending
  | allocated
  | picking
  | short
  | cancelled
  | complete
  deriving DecidableEq, Repr

/-- A CONFIRMED pick entry (R109), with the serial number of the task it came from. -/
structure Confirmed where
  id       : Nat
  slot     : SlotAddr
  quantity : Nat
  week     : Nat
  deriving DecidableEq, Repr

/-- A line of an order (R109). `span` holds the lowest and highest dispatched week. -/
structure Line where
  article    : Nat
  quantity   : Nat
  set        : Bool
  dispatched : Nat
  span       : Option (Nat × Nat)
  confirmed  : List Confirmed
  deriving DecidableEq, Repr

/-- An order record (R108); its lines are numbered 1 upward. -/
structure Order where
  code     : Nat
  priority : Nat
  seq      : Nat
  state    : OrderState
  lane     : Option (Fin 8)
  lines    : List Line
  deriving DecidableEq, Repr

/-- CANCEL-MODE (R111). -/
inductive CancelMode where
  | withdraw
  | complete
  deriving DecidableEq, Repr

/-- The states of a lane (R133). -/
inductive LaneState where
  | free
  | filling
  | ready
  deriving DecidableEq, Repr

/-- A lane record (R133); `timer` is the expiry time of a running transit timer. -/
structure Lane where
  state      : LaneState
  order      : Option (Fin 32)
  expected   : Nat
  dispatched : Nat
  arrived    : Nat
  overflow   : Bool
  late       : Bool
  short      : Bool
  orphan     : Bool
  timer      : Option Nat
  deriving DecidableEq, Repr

/-- A lane at power-on (R133). -/
def Lane.initial : Lane := ⟨.free, none, 0, 0, 0, false, false, false, false, none⟩

/-! ## The host link (chapter 10) -/

/-- A field of a reply or notice with its width and encoding (R191). -/
inductive Field where
  | u8 (n : Nat)
  | u16 (n : Nat)
  | u24 (n : Nat)
  | u32 (n : Nat)
  | mark (b : Bool)
  deriving DecidableEq, Repr

/-- The reply statuses (R192), in the order of their codes. -/
inductive Status where
  | accepted
  | badForm
  | badValue
  | wrongState
  | noRoom
  | notFound
  | noPlace
  | stale
  | inUse
  | linkFull
  deriving DecidableEq, Repr

/-- A reply in the reply path (R192). `solicited` tells the reply of a dispatched frame from a LINK-FULL reply
(R190, R194). -/
structure Reply where
  kind      : Nat
  tag       : Nat
  status    : Status
  fields    : List Field
  solicited : Bool
  deriving DecidableEq, Repr

/-- The notice kinds (R195), in the order of their codes. -/
inductive NoticeKind where
  | slotSuspect
  | balanceHigh
  | creepOn
  | creepOff
  | homed
  | carouselFault
  | positionSlip
  | stopped
  | pickStarved
  | stored
  | storeFailed
  | orderAllocated
  | orderShort
  | transitLate
  | laneOverflow
  | orderReady
  | orderCollected
  | auditDone
  | countsPaused
  deriving DecidableEq, Repr

/-- A notice in the notice queue (R195). -/
structure Notice where
  kind   : NoticeKind
  number : Nat
  lost   : Nat
  fields : List Field
  deriving DecidableEq, Repr

/-- A frame the transmitter is sending (R194). -/
inductive TxFrame where
  | reply (r : Reply)
  | notice (n : Notice)
  deriving DecidableEq, Repr

/-- The two sources of the transmitter (R194). -/
inductive Source where
  | reply
  | notice
  deriving DecidableEq, Repr

/-- The receiver, with the frame so far (R188): L, the content bytes taken, and the first check byte once taken. -/
inductive Receiver where
  | hunt
  | length
  | content (len : Nat) (taken : List Byte)
  | check (len : Nat) (taken : List Byte) (high : Option Byte)
  deriving DecidableEq, Repr

/-- A request frame in the receive queue (R189). -/
structure RxFrame where
  kind : Nat
  tag  : Nat
  body : List Byte
  deriving DecidableEq, Repr

/-- The serial data rates (R186), in the order of the straps. -/
inductive Rate where
  | b9600
  | b19200
  | b57600
  | b115200
  deriving DecidableEq, Repr

/-- The Link Controller (chapter 10). -/
structure Link where
  rate        : Rate
  receiver    : Receiver
  gap         : Nat
  received    : List RxFrame
  replies     : List Reply
  notices     : List Notice
  lastNumber  : Nat
  lost        : Nat
  discarded   : Nat
  refused     : Nat
  sending     : Option TxFrame
  lastSource  : Source
  deriving DecidableEq, Repr

/-- The link after power-on at a rate (R188, R189, R194, R195). -/
def Link.initial (rate : Rate) : Link :=
  ⟨rate, .hunt, 0, [], [], [], 0, 0, 0, 0, none, .notice⟩

/-- The state of the part, and the queue of the commands that wait to be taken. `estop` is the level the last ESTOP edge taken
brought; the level of the input as it stands is `State.estopLevel` (R1). -/
structure State where
  carousels       : Vector Carousel 4
  widths          : Vector Nat 8
  articles        : Vector (Option Article) 256
  corrections     : Nat
  waiting         : List Task
  nextTask        : Nat
  workSeq         : Nat
  workSeqSpent    : Bool
  schedClock      : Nat
  stores          : Vector (Option Store) 16
  lastStore       : Nat
  orders          : Vector (Option Order) 32
  week            : Nat
  setSpread       : Nat
  cancelMode      : CancelMode
  lanes           : Vector Lane 8
  laneCap         : Nat
  transitTimeout  : Nat
  laneClock       : Nat
  gaugeSpan       : Nat
  entries         : List Entry
  link            : Link
  estop           : Bool
  idleTicks       : Nat
  pending         : List Instr
  deriving DecidableEq, Repr

/-- The state after power-on (R2, R5, R6, R15, R23, R24, R44, R70, R90, R92, R107, R111, R132, R133, R146, R148,
R149, R163, R175, R177, R188, R189, R195). The rate straps are taken as both low and ESTOP as not asserted, which
the outside decides (DESIGN CHOICE, log 11). -/
def State.reset : State where
  carousels := Vector.replicate 4 Carousel.initial
  widths := Vector.replicate 8 205
  articles := Vector.replicate 256 none
  corrections := 0
  waiting := []
  nextTask := 0
  workSeq := 0
  workSeqSpent := false
  schedClock := 0
  stores := Vector.replicate 16 none
  lastStore := 0
  orders := Vector.replicate 32 none
  week := 0
  setSpread := 26
  cancelMode := .withdraw
  lanes := Vector.replicate 8 Lane.initial
  laneCap := 24
  transitTimeout := 30
  laneClock := 0
  gaugeSpan := 1600
  entries := []
  link := Link.initial .b9600
  estop := false
  idleTicks := 0
  pending := []

end Sys2Proof.Machine
end

