-- ==== Sys2Proof/Machine/Ops.lean ====
section
/-! DEFINITION. The named operations over the part's registers and slot records: access to the tables, raising a
notice (R195), answering a request (R192), the balance arithmetic (R25 to R30), reading a record with its integrity
faults (R15, R16), writing a record (R10, R11, R14, R27), and the passing of time. -/

namespace Sys2Proof.Machine

/-- What a meaning answers. -/
abbrev Out := Host.Outcome State Fault Refusal

/-! ## Access to the tables -/

/-- Carousel k. -/
def State.car (s : State) (k : Fin 4) : Carousel := s.carousels[k.val]

/-- Write carousel k. -/
def State.setCar (s : State) (k : Fin 4) (c : Carousel) : State :=
  { s with carousels := s.carousels.set k.val c }

/-- Change carousel k. -/
def State.modCar (s : State) (k : Fin 4) (f : Carousel → Carousel) : State := s.setCar k (f (s.car k))

/-- Lane l. -/
def State.lane (s : State) (l : Fin 8) : Lane := s.lanes[l.val]

/-- Write lane l. -/
def State.setLane (s : State) (l : Fin 8) (x : Lane) : State := { s with lanes := s.lanes.set l.val x }

/-- The order record at a position, if one is held. -/
def State.order? (s : State) (o : Fin 32) : Option Order := s.orders[o.val]

/-- Write an order position. -/
def State.setOrder (s : State) (o : Fin 32) (x : Option Order) : State := { s with orders := s.orders.set o.val x }

/-- The store record at a position, if one is held. -/
def State.store? (s : State) (p : Fin 16) : Option Store := s.stores[p.val]

/-- Write a store position. -/
def State.setStore (s : State) (p : Fin 16) (x : Option Store) : State := { s with stores := s.stores.set p.val x }

/-- The article record at a position, if one is held (R6). -/
def State.article? (s : State) (p : Nat) : Option Article :=
  if h : p < 256 then s.articles[p] else none

/-- Write an article position. -/
def State.setArticle (s : State) (p : Fin 256) (x : Option Article) : State :=
  { s with articles := s.articles.set p.val x }

/-- The position of the article record with a code (R6). -/
def State.articleAt (s : State) (code : Nat) : Option (Fin 256) :=
  (List.finRange 256).find? fun p => (s.articles[p.val]).any (·.code = code)

/-- The position of the order record with a code (R108). -/
def State.orderAt (s : State) (code : Nat) : Option (Fin 32) :=
  (List.finRange 32).find? fun o => (s.order? o).any (·.code = code)

/-- The position of the store record with a number (R91). -/
def State.storeAt (s : State) (number : Nat) : Option (Fin 16) :=
  (List.finRange 16).find? fun p => (s.store? p).any (·.number = number)

/-- The four carousels, A lowest. -/
def allCarousels : List (Fin 4) := [0, 1, 2, 3]

/-- The eight lanes, lowest first. -/
def allLanes : List (Fin 8) := [0, 1, 2, 3, 4, 5, 6, 7]

/-- Apply a change for each of a list, in order. -/
def State.forEach {α : Type} (xs : List α) (f : α → State → State) (s : State) : State :=
  xs.foldl (fun s x => f x s) s

/-! ## The ESTOP input (R1) -/

/-- The level an ESTOP edge brings: asserted, not asserted, or no ESTOP edge at all. -/
def estopEdge? : Instr → Option Bool
  | .estopAssert => some true
  | .estopRelease => some false
  | _ => none

/-- The level of the ESTOP input as it stands (R1): that of the last edge to have arrived, taken already or still held in
`pending` (log 10). -/
def State.estopLevel (s : State) : Bool := ((s.pending.filterMap estopEdge?).getLast?).getD s.estop

/-! ## Geometry (R3) -/

/-- A carousel is configured while it has carriers (R2). -/
def Carousel.configured (c : Carousel) : Bool := c.geometry.n ≠ 0

/-- Subtraction in 0..n-1 (R3). -/
def subMod (n a b : Nat) : Nat := (a + n - b % n) % n

/-- The carrier standing at the opening (R3). -/
def Carousel.atOpening (c : Carousel) : Nat := subMod c.geometry.n c.geometry.a c.offset

/-- The offset at which a carrier stands at the opening (R3). -/
def Carousel.offsetFor (c : Carousel) (carrier : Nat) : Nat := subMod c.geometry.n c.geometry.a carrier

/-- A carrier range first..last, wrapping across carrier 0 when first > last (R17, R163). -/
def covers (first last carrier : Nat) : Bool :=
  if first ≤ last then first ≤ carrier && carrier ≤ last else first ≤ carrier || carrier ≤ last

/-- The number of carriers in a range (R163). -/
def rangeSize (n first last : Nat) : Nat :=
  if first ≤ last then last - first + 1 else n - first + last + 1

/-- A carousel is serviceable (R45). -/
def Carousel.serviceable (c : Carousel) : Bool :=
  c.state = .idle || c.state = .moving || c.state = .presenting

/-! ## Slot records -/

/-- The place of a slot in its carousel's records: address order (R4). -/
def Carousel.index (c : Carousel) (carrier column : Nat) : Nat := carrier * c.geometry.s + column

/-- An address lies within a carousel's geometry (R4). -/
def Carousel.hasSlot (c : Carousel) (carrier column : Nat) : Bool :=
  carrier < c.geometry.n && column < c.geometry.s

/-- The slot record at a place of a carousel. -/
def Carousel.slot (c : Carousel) (carrier column : Nat) : Slot :=
  (c.slots[c.index carrier column]?).getD Slot.empty

/-- The slot record at an address. -/
def State.slot (s : State) (a : SlotAddr) : Slot := (s.car a.carousel).slot a.carrier a.column

/-- The column-table entry of a column (R4). -/
def Carousel.column (c : Carousel) (j : Nat) : Column := (c.geometry.columns[j]?).getD ⟨0, 0⟩

/-- The capacity of a slot (R4). -/
def State.capacity (s : State) (a : SlotAddr) : Nat := ((s.car a.carousel).column a.column).cap

/-- The class of a slot (R4). -/
def State.slotClass (s : State) (a : SlotAddr) : Nat := ((s.car a.carousel).column a.column).cls

/-- The addresses of one carrier, in column order. -/
def State.carrierAddrs (s : State) (k : Fin 4) (carrier : Nat) : List SlotAddr :=
  (List.range (s.car k).geometry.s).map fun j => ⟨k, carrier, j⟩

/-- The addresses of one carousel, in address order. -/
def State.addrs (s : State) (k : Fin 4) : List SlotAddr :=
  (List.range (s.car k).geometry.n).flatMap (s.carrierAddrs k)

/-- Every address of the bank, in address order. -/
def State.allAddrs (s : State) : List SlotAddr := allCarousels.flatMap s.addrs

/-- The law of R11: a slot with count 0 and reserved-in 0 holds no article. -/
def Slot.settled (r : Slot) : Slot := if r.count = 0 ∧ r.resIn = 0 then { r with held := none } else r

/-- Write a slot record whole, with a fresh integrity code (R14) and the law of R11. -/
def State.putSlot (a : SlotAddr) (r : Slot) (s : State) : State :=
  s.modCar a.carousel fun c =>
    { c with slots := c.slots.set (c.index a.carrier a.column) { r.settled with damage := .sound } }

/-- The tyres a slot may still promise (section 1.3). -/
def Slot.available (r : Slot) : Nat := r.count - r.resOut

/-- The places a slot may still promise (section 1.3). -/
def State.room (s : State) (a : SlotAddr) : Nat := s.capacity a - (s.slot a).count - (s.slot a).resIn

/-! ## Tasks -/

/-- Every task, with those of the queues (R68). -/
def State.allTasks (s : State) : List Task := s.waiting ++ allCarousels.flatMap fun k => (s.car k).queue

/-- A task is a PICK (R68). -/
def Task.isPick (t : Task) : Bool :=
  match t.owner with
  | .pick _ _ => true
  | .place _ => false

/-- A task counts toward its slot's reservations unless it is WITHDRAWN (R12, R68). -/
def Task.counts (t : Task) : Bool := t.state ≠ .withdrawn

/-- The PICKs that count toward reserved-out of a slot (R12). -/
def State.picksOn (s : State) (a : SlotAddr) : List Task :=
  s.allTasks.filter fun t => t.slot = a && t.isPick && t.counts

/-- The PLACEs that count toward reserved-in of a slot (R12). -/
def State.placesOn (s : State) (a : SlotAddr) : List Task :=
  s.allTasks.filter fun t => t.slot = a && !t.isPick && t.counts

/-- The sum of the quantities of tasks (R12). -/
def quantitySum (ts : List Task) : Nat := (ts.map (·.quantity)).sum

/-- The work sequence number of a task's owner (R70). -/
def State.ownerSeq (s : State) (t : Task) : Nat :=
  match t.owner with
  | .pick o _ => ((s.order? o).map (·.seq)).getD 0
  | .place p => ((s.store? p).map (·.seq)).getD 0

/-- The task of a list whose owner has the lowest work sequence number (R16). -/
def State.oldestOf (s : State) (ts : List Task) : Option Task :=
  ts.foldl (fun best t =>
    match best with
    | none => some t
    | some b => if s.ownerSeq t < s.ownerSeq b then some t else some b) none

/-! ## Notices and replies -/

/-- Raise a notice (R195): it takes the next number, and its place in the queue or a place among the lost. -/
def State.raise (kind : NoticeKind) (fields : List Field) (s : State) : State :=
  let n := (s.link.lastNumber + 1) % 65536
  if s.link.notices.length < Config.noticeDepth then
    { s with link := { s.link with
        notices := s.link.notices ++ [⟨kind, n, s.link.lost, fields⟩], lastNumber := n, lost := 0 } }
  else
    { s with link := { s.link with lastNumber := n, lost := min 255 (s.link.lost + 1) } }

/-- Place the reply of a dispatched frame in the reply path (R192, R194). -/
def State.reply (kind tag : Nat) (status : Status) (fields : List Field) (s : State) : State :=
  { s with link := { s.link with replies := s.link.replies ++ [⟨kind, tag, status, fields, true⟩] } }

/-- A figure as reported: saturated at 65535 (R41). -/
def saturate (n : Nat) : Nat := min n 65535

/-- The fields of a slot address (R191). -/
def addrFields (a : SlotAddr) : List Field := [.u8 a.carousel.val, .u8 a.carrier, .u8 a.column]

/-- A field of several parts that may be absent: a mark byte, then its parts, or those of the absent field (R191). -/
def optGroup (absent : List Field) (x : Option (List Field)) : List Field := .mark x.isSome :: x.getD absent

/-- An optional one-byte field: a mark byte, then the value or 0 (R191). -/
def optU8 (x : Option Nat) : List Field := [.mark x.isSome, .u8 (x.getD 0)]

/-- An optional two-byte field: a mark byte, then the value or 0 (R191). -/
def optU16 (x : Option Nat) : List Field := [.mark x.isSome, .u16 (x.getD 0)]

/-- An optional three-byte field: a mark byte, then the value or 0 (R191). -/
def optU24 (x : Option Nat) : List Field := [.mark x.isSome, .u24 (x.getD 0)]

/-- A list inside a body: a count byte, then the entries (R191). -/
def listFields (entries : List (List Field)) : List Field := .u8 entries.length :: entries.flatten

/-- The code of an article position, 0 when none is held (R191). -/
def State.codeOf (s : State) (held : Option Held) : Nat :=
  match held with
  | none => 0
  | some h => ((s.article? h.article).map (·.code)).getD 0

/-! ## Carrier loads, imbalance and peak (R25 to R30) -/

/-- The mass of one tyre of what a slot holds (R25). -/
def State.massOf (s : State) (held : Option Held) : Nat :=
  match held with
  | none => 0
  | some h => ((s.article? h.article).map (·.mass)).getD 0

/-- A slot's share of the physical load (R25). -/
def State.slotPhys (s : State) (a : SlotAddr) : Nat := (s.slot a).count * s.massOf (s.slot a).held

/-- A slot's share of the projected load (R26). -/
def State.slotProj (s : State) (a : SlotAddr) : Nat :=
  ((s.slot a).count - (s.slot a).resOut + (s.slot a).resIn) * s.massOf (s.slot a).held

/-- L(c) (R25). -/
def State.physLoad (s : State) (k : Fin 4) (carrier : Nat) : Nat :=
  ((s.carrierAddrs k carrier).map s.slotPhys).sum

/-- P(c) (R26). -/
def State.projLoad (s : State) (k : Fin 4) (carrier : Nat) : Nat :=
  ((s.carrierAddrs k carrier).map s.slotProj).sum

/-- The side sign of a frame position (R28). -/
def sideSign (n p : Nat) : Int :=
  if 1 ≤ p ∧ p + 1 ≤ n / 2 then 1 else if n / 2 + 1 ≤ p ∧ p + 1 ≤ n then -1 else 0

/-- I(r) for a picture of loads (R29). -/
def imbalance (n : Nat) (loads : List Nat) (r : Nat) : Int :=
  ((List.range n).map fun c => ((loads[c]?).getD 0 : Nat) * sideSign n ((c + r) % n)).sum

/-- The peak of a picture of loads (R30). -/
def peak (n : Nat) (loads : List Nat) : Nat :=
  ((List.range (n / 2)).map fun r => (imbalance n loads r).natAbs).foldl max 0

/-- Write a carrier's loads and recompute both peaks (R27, R30). -/
def Carousel.withLoads (c : Carousel) (carrier phys proj : Nat) : Carousel :=
  let ls := c.phys.set carrier phys
  let ps := c.proj.set carrier proj
  { c with phys := ls, proj := ps, physPeak := peak c.geometry.n ls, projPeak := peak c.geometry.n ps }

/-- Form a carrier's loads afresh from its records, and the carousel's peaks (R27). -/
def State.reweigh (k : Fin 4) (carrier : Nat) (s : State) : State :=
  s.modCar k fun c => c.withLoads carrier (s.physLoad k carrier) (s.projLoad k carrier)

/-! ## Integrity faults (R15, R16) and changes of a record (R14) -/

/-- Remove a column from a sweep's set marks (R168). -/
def Audit.unmark (carrier column : Nat) : Audit → Audit
  | .sweep w => if w.cursor = carrier then .sweep { w with marks := w.marks.filter (· ≠ column) } else .sweep w
  | a => a

/-- Remove a slot's set mark (R168). -/
def State.unmark (a : SlotAddr) (s : State) : State :=
  s.modCar a.carousel fun c => { c with audit := c.audit.unmark a.carrier a.column }

/-- An entry of the discrepancy list names the slot (R175). -/
def State.named (s : State) (a : SlotAddr) : Bool := s.entries.any fun e => e.slot = a

/-- What the repair of a record finds it to hold (R16, step 2): the article as read where it names an article record, else that
of a PLACE on the slot, else that of a PICK. Only tasks that count toward the sums of R12 supply it: a WITHDRAWN task does not
(DESIGN CHOICE, log 27). An article kept with no week read has a free week (log 25). -/
def State.repairHeld (s : State) (a : SlotAddr) (raw : RawRecord) : Option Held :=
  match raw.article.filter fun p => (s.article? p).isSome with
  | some p => some ⟨p, raw.week.getD (Config.weekNotRead s.idleTicks).toNat⟩
  | none =>
    match s.oldestOf (s.placesOn a) with
    | some t =>
      match t.owner with
      | .place p => (s.store? p).map fun r => ⟨r.article, r.week⟩
      | .pick _ _ => none
    | none =>
      match s.oldestOf (s.picksOn a) with
      | some t =>
        match t.owner with
        | .pick o l => ((s.order? o).bind fun r => r.lines[l - 1]?).map fun x =>
            ⟨x.article, raw.week.getD s.week⟩
        | .place _ => none
      | none => none

/-- The record after the repair of an uncorrectable fault (R16, steps 1 to 4). -/
def State.repaired (s : State) (a : SlotAddr) (raw : RawRecord) : Slot :=
  let out := quantitySum (s.picksOn a)
  let inn := quantitySum (s.placesOn a)
  let held := s.repairHeld a raw
  { held := held
    count := if held.isSome then max out (min raw.count (s.capacity a - inn)) else 0
    resOut := out
    resIn := inn
    due := true
    disputed := raw.disputed || s.named a
    suspect := true
    damage := .sound }

/-- The notice SLOT-SUSPECT (R16). -/
def State.raiseSuspect (a : SlotAddr) (s : State) : State :=
  s.raise .slotSuspect
    (addrFields a ++ [.u16 (s.codeOf (s.slot a).held)] ++ optU16 ((s.slot a).held.map (·.week))
      ++ [.u8 (s.slot a).count])

/-- Raise the integrity-correction count (R15). -/
def State.countCorrection (s : State) : State := { s with corrections := min 65535 (s.corrections + 1) }

/-- Rewrite the record that a read finds at fault: corrected and counted (R15), or repaired, SUSPECT and COUNT_DUE, with its
set mark removed (R16, R168). -/
def State.mend (a : SlotAddr) (s : State) : State :=
  match (s.slot a).damage with
  | .sound => s
  | .correctable => s.putSlot a (s.slot a) |>.countCorrection
  | .uncorrectable raw => (s.putSlot a (s.repaired a raw)).unmark a

/-- A record's fault is uncorrectable (R16). -/
def Slot.unreadable (r : Slot) : Bool :=
  match r.damage with
  | .sound => false
  | .correctable => false
  | .uncorrectable _ => true

/-- The slots of a carrier whose records a read finds uncorrectable, in column order. -/
def State.unreadableOn (s : State) (k : Fin 4) (carrier : Nat) : List SlotAddr :=
  (s.carrierAddrs k carrier).filter fun a => (s.slot a).unreadable

/-- Hand a carrier to the Balance Unit (R14, R27): its records are read, with their faults dealt with, and its loads and the
carousel's peaks are formed afresh. A record repaired on the way hands the carrier over itself before it is reported (R16),
so the reports of several come last repaired first (DEDUCED, log 31). -/
def State.rebalance (k : Fin 4) (carrier : Nat) (s : State) : State :=
  ((s.forEach (s.carrierAddrs k carrier) State.mend).reweigh k carrier).forEach (s.unreadableOn k carrier).reverse
    State.raiseSuspect

/-- Read a record: a fault found is corrected (R15), or repaired, its carrier handed to the Balance Unit, and reported
(R16). -/
def State.touch (a : SlotAddr) (s : State) : State :=
  match (s.slot a).damage with
  | .sound => s
  | .correctable => s.mend a
  | .uncorrectable _ => ((s.mend a).rebalance a.carousel a.carrier).raiseSuspect a

/-- Read records one after another, in the order of the list. Where one event reads records of several carriers (STATUS,
READ-STOCK, a scan and the like), the spec gives no order of the reads, and so none of their SLOT-SUSPECT notices (R16): the
order is slot-address order, but where log 33 names another (DESIGN CHOICE, log 33). -/
def State.touchAll (as : List SlotAddr) (s : State) : State := s.forEach as State.touch

/-- Change a record's count, reservations or article: read, written whole, and its carrier handed to the Balance
Unit (R14). -/
def State.changeSlot (a : SlotAddr) (f : Slot → Slot) (s : State) : State :=
  let s := s.touch a
  (s.putSlot a (f (s.slot a))).rebalance a.carousel a.carrier

/-- Change only flags of a record (R13, R14). -/
def State.flagSlot (a : SlotAddr) (f : Slot → Slot) (s : State) : State :=
  let s := s.touch a
  s.putSlot a (f (s.slot a))

/-! ## Time -/

/-- Time passes at one carousel: the pulse supervision timer runs down (R55). -/
def Carousel.advance (dt : Nat) (c : Carousel) : Carousel :=
  { c with supervision := c.supervision.map fun v => { v with left := v.left - dt } }

/-- Time passes: both millisecond clocks, the supervision timers and the gap timer (R55, R68, R133, R188). -/
def State.advance (dt : Nat) (s : State) : State :=
  { s with
    carousels := s.carousels.map (Carousel.advance dt)
    schedClock := s.schedClock + dt
    laneClock := s.laneClock + dt
    link := { s.link with gap := s.link.gap + dt } }

/-- Leave a struck record's stored fields and code in disagreement (section 1.4). An address outside the geometry
strikes nothing. -/
def State.strike (u : Upset) (s : State) : State :=
  if (s.car u.slot.carousel).hasSlot u.slot.carrier u.slot.column then
    s.modCar u.slot.carousel fun c =>
      let r := { (c.slot u.slot.carrier u.slot.column) with damage := u.damage }
      { c with slots := c.slots.set (c.index u.slot.carrier u.slot.column) r }
  else s

/-- One idle millisecond (log 1): time passes, and the slot memory may be struck (log 7). -/
def State.tick (s : State) : State :=
  let s' := { (s.advance 1) with idleTicks := s.idleTicks + 1 }
  match Config.memoryUpset s.idleTicks with
  | none => s'
  | some u => s'.strike u

end Sys2Proof.Machine
end

