-- ==== Sys2Proof/Machine/Operands.lean ====
section
/-! DEFINITION. The operand forms of requests: from the bytes of a request body, as numbers, to the carousels, slots,
kinds and modes they name (R191), and from the part's enumerated values to their codes in replies and notices. -/

namespace Sys2Proof.Machine

/-- A carousel byte: 0 to 3 for A to D (R191). -/
def carousel? (n : Nat) : Option (Fin 4) := if h : n < 4 then some ⟨n, h⟩ else none

/-- A lane number 0..7 (R143). -/
def lane? (n : Nat) : Option (Fin 8) := if h : n < 8 then some ⟨n, h⟩ else none

/-- A slot address within the geometry of a configured carousel (R2, R20, R21). -/
def State.slot? (s : State) (carousel carrier column : Nat) : Option SlotAddr :=
  match carousel? carousel with
  | none => none
  | some k => if (s.car k).hasSlot carrier column then some ⟨k, carrier, column⟩ else none

/-- A STORE target: 0 to 3 for A to D, 4 for ANY (R191). -/
def target? (n : Nat) : Option (Option (Fin 4)) :=
  if n = 4 then some none else (carousel? n).map some

/-- A zone kind (R191). -/
def zoneKind? : Nat → Option ZoneKind
  | 0 => some .noStore
  | 1 => some .noHandle
  | _ => none

/-- A STARVE-MODE (R191). -/
def starveMode? : Nat → Option StarveMode
  | 0 => some .off
  | 1 => some .priority
  | 2 => some .hold
  | _ => none

/-- A mark, off or on, no or yes (R191). -/
def mark? : Nat → Option Bool
  | 0 => some false
  | 1 => some true
  | _ => none

/-- A CANCEL-MODE (R191). -/
def cancelMode? : Nat → Option CancelMode
  | 0 => some .withdraw
  | 1 => some .complete
  | _ => none

/-- A week, or any two-byte number: a value that does not fit its field is out of range (R191). -/
def fitsHalf (n : Nat) : Bool := n ≤ 65535

/-- A value within a range. -/
def inRange (lo hi n : Nat) : Bool := lo ≤ n && n ≤ hi

/-- A value clamped into a range (R40, R146, R149). -/
def clamp (lo hi n : Nat) : Nat := max lo (min hi n)

/-- The geometry checks of R2 on the fields of a SET-CAROUSEL. -/
def geometryOk (n s a : Nat) (columns : List (Nat × Nat)) : Bool :=
  n % 2 = 0 && inRange 8 48 n && inRange 1 6 s && inRange 1 (n / 2 - 1) a && columns.length = s
    && columns.all fun c => c.1 ≤ 7 && inRange 1 12 c.2

/-- The held form of checked geometry fields. -/
def geometryOf (n s a : Nat) (columns : List (Nat × Nat)) : Geometry :=
  ⟨n, s, a, columns.map fun c => ⟨c.1, c.2⟩⟩

/-! ## Codes of enumerated values: positions in the lists that define them (R191) -/

/-- R44. -/
def CarouselState.code : CarouselState → Nat
  | .offline => 0
  | .homing => 1
  | .idle => 2
  | .moving => 3
  | .presenting => 4
  | .fault => 5
  | .stopped => 6

/-- R44. -/
def Phase.code : Phase → Nat
  | .none => 0
  | .counting => 1
  | .handling => 2
  | .verifying => 3

/-- R59. -/
def FaultCause.code : FaultCause → Nat
  | .homeFail => 0
  | .stall => 1
  | .drift => 2

/-- R39. -/
def StarveMode.code : StarveMode → Nat
  | .off => 0
  | .priority => 1
  | .hold => 2

/-- R68. -/
def TaskState.code : TaskState → Nat
  | .unreleased => 0
  | .queued => 1
  | .shown => 2
  | .withdrawn => 3

/-- R148. -/
def GaugeState.code : GaugeState → Nat
  | .idle => 0
  | .settling => 1
  | .converting => 2

/-- R148. -/
def InFlight.code : InFlight → Nat
  | .none => 0
  | .first => 1
  | .second => 2
  | .orphaned => 3

/-- R150. -/
def Purpose.code : Purpose → Nat
  | .count => 0
  | .verify => 1

/-- R153. -/
def WidthSource.code : WidthSource → Nat
  | .article => 0
  | .cls => 1

/-- R159. -/
def AbandonCause.code : AbandonCause → Nat
  | .estop => 0
  | .drift => 1
  | .reset => 2

/-- R201. -/
def Origin.code : Origin → Nat
  | .sweep => 0
  | .verify => 1
  | .suspect => 2
  | .phantom => 3

/-- R91. -/
def StoreState.code : StoreState → Nat
  | .opened => 0
  | .closing => 1

/-- R108. -/
def OrderState.code : OrderState → Nat
  | .pending => 0
  | .allocated => 1
  | .picking => 2
  | .short => 3
  | .cancelled => 4
  | .complete => 5

/-- R111. -/
def CancelMode.code : CancelMode → Nat
  | .withdraw => 0
  | .complete => 1

/-- R133. -/
def LaneState.code : LaneState → Nat
  | .free => 0
  | .filling => 1
  | .ready => 2

/-- R186. -/
def Rate.code : Rate → Nat
  | .b9600 => 0
  | .b19200 => 1
  | .b57600 => 2
  | .b115200 => 3

/-- The rate of two strap levels (R186). -/
def rateOf (strap1 strap0 : Bool) : Rate :=
  match strap1, strap0 with
  | false, false => .b9600
  | false, true => .b19200
  | true, false => .b57600
  | true, true => .b115200

/-- R192. -/
def Status.code : Status → Nat
  | .accepted => 0
  | .badForm => 1
  | .badValue => 2
  | .wrongState => 3
  | .noRoom => 4
  | .notFound => 5
  | .noPlace => 6
  | .stale => 7
  | .inUse => 8
  | .linkFull => 9

/-- R195. -/
def NoticeKind.code : NoticeKind → Nat
  | .slotSuspect => 0x01
  | .balanceHigh => 0x02
  | .creepOn => 0x03
  | .creepOff => 0x04
  | .homed => 0x05
  | .carouselFault => 0x06
  | .positionSlip => 0x07
  | .stopped => 0x08
  | .pickStarved => 0x09
  | .stored => 0x0A
  | .storeFailed => 0x0B
  | .orderAllocated => 0x0C
  | .orderShort => 0x0D
  | .transitLate => 0x0E
  | .laneOverflow => 0x0F
  | .orderReady => 0x10
  | .orderCollected => 0x11
  | .auditDone => 0x12
  | .countsPaused => 0x13

/-- The request kinds of R190, which the reply header repeats (R192). -/
def kindStatus : Nat := 0x01
def kindReset : Nat := 0x02
def kindSetCarousel : Nat := 0x03
def kindSetLimits : Nat := 0x04
def kindLockZone : Nat := 0x05
def kindClearZone : Nat := 0x06
def kindHome : Nat := 0x07
def kindClose : Nat := 0x08
def kindResume : Nat := 0x09
def kindConfirm : Nat := 0x0A
def kindReadQueue : Nat := 0x0B
def kindReadBalance : Nat := 0x0C
def kindReadGauge : Nat := 0x0D
def kindDefineClass : Nat := 0x10
def kindDefineArticle : Nat := 0x11
def kindDropArticle : Nat := 0x12
def kindLoadSlot : Nat := 0x13
def kindReadSlot : Nat := 0x14
def kindReadStock : Nat := 0x15
def kindStore : Nat := 0x18
def kindDropStore : Nat := 0x19
def kindReadStore : Nat := 0x1A
def kindOrder : Nat := 0x20
def kindCancel : Nat := 0x21
def kindReadOrder : Nat := 0x22
def kindSetWeek : Nat := 0x23
def kindSetPolicy : Nat := 0x24
def kindClearLane : Nat := 0x28
def kindReadLanes : Nat := 0x29
def kindAudit : Nat := 0x30
def kindStopAudit : Nat := 0x31
def kindReadReport : Nat := 0x32
def kindResolve : Nat := 0x33

/-- A page of items (R193): the total, the first item, and the items from it onward, at most so many. -/
def pageFields (most firstItem : Nat) (items : List (List Field)) : List Field :=
  [.u8 items.length, .u8 firstItem] ++ listFields ((items.drop firstItem).take most)

end Sys2Proof.Machine
end

