-- ==== Sys2Proof/Machine/Flags.lean ====
section
/-! DEFINITION. The slot flags COUNT_DUE, DISPUTED and SUSPECT (R13, R168), zone locks over a slot (R17), and what
follows from them: whether a slot's tasks are blocked (R13), a task is eligible (R74), counts are permitted and a
carrier has work (R75), and the hold is in force (R80). -/

namespace Sys2Proof.Machine

/-! ## Setting and clearing flags -/

/-- Set COUNT_DUE for a cause other than the sweep: a set mark of the slot is removed (R168). -/
def State.setDue (a : SlotAddr) (s : State) : State :=
  (s.flagSlot a fun r => { r with due := true }).unmark a

/-- Clear COUNT_DUE: a set mark of the slot is removed (R168). -/
def State.clearDue (a : SlotAddr) (s : State) : State :=
  (s.flagSlot a fun r => { r with due := false }).unmark a

/-- Write DISPUTED. -/
def State.putDisputed (a : SlotAddr) (b : Bool) (s : State) : State :=
  s.flagSlot a fun r => { r with disputed := b }

/-! ## Zones (R17) -/

/-- A slot lies in a zone of a kind. -/
def State.inZone (s : State) (kind : ZoneKind) (a : SlotAddr) : Bool :=
  (s.car a.carousel).zones.toList.any fun z =>
    z.any fun z => z.kind = kind && covers z.first z.last a.carrier

/-- The slot lies in a NO-STORE zone. -/
def State.noStore (s : State) (a : SlotAddr) : Bool := s.inZone .noStore a

/-- The slot lies in a NO-HANDLE zone. -/
def State.noHandle (s : State) (a : SlotAddr) : Bool := s.inZone .noHandle a

/-! ## Blocked, eligible, starving, permitted, work -/

/-- A slot's tasks are blocked (R13). -/
def State.blocked (s : State) (a : SlotAddr) : Bool :=
  (s.slot a).due || (s.slot a).disputed || (s.slot a).suspect || s.noHandle a

/-- A task is eligible (R74). -/
def State.eligible (s : State) (t : Task) : Bool := t.state = .queued && !s.blocked t.slot

/-- The starvation threshold (R79): STARVE-LIMIT, with 0 read as 1. -/
def Limits.threshold (l : Limits) : Nat := max 1 l.starveLimit

/-- A PICK with this skip count starves under these limits once it is QUEUED (R79). -/
def Limits.starves (l : Limits) (skip : Nat) : Bool := l.starveMode ≠ .off && l.threshold ≤ skip

/-- A task is a starving PICK: it holds a starving-since time (R68, R79). -/
def Task.isStarving (t : Task) : Bool := t.starving.isSome

/-- The hold is in force on a carousel (R80). -/
def Carousel.hold (c : Carousel) : Bool := c.limits.starveMode = .hold && c.queue.any Task.isStarving

/-- The discrepancy list is full (R75, R176). -/
def State.listFull (s : State) : Bool := Config.listDepth ≤ s.entries.length

/-- Counts are permitted on a carrier (R75). -/
def State.permitted (s : State) (k : Fin 4) (carrier : Nat) : Bool :=
  !s.listFull && (!(s.car k).hold ||
    (s.car k).queue.any fun t => t.isStarving && t.slot.carrier = carrier)

/-- The COUNT_DUE columns of a carrier, lowest first. -/
def Carousel.dueColumns (c : Carousel) (carrier : Nat) : List Nat :=
  (List.range c.geometry.s).filter fun j => (c.slot carrier j).due

/-- A carrier has work (R75). -/
def State.hasWork (s : State) (k : Fin 4) (carrier : Nat) : Bool :=
  ((s.car k).queue.any fun t => t.slot.carrier = carrier && s.eligible t)
    || (!((s.car k).dueColumns carrier).isEmpty && s.permitted k carrier)

/-- The number of COUNT_DUE slots of a carousel (R196). -/
def Carousel.dueCount (c : Carousel) : Nat := c.slots.countP (·.due)

end Sys2Proof.Machine
end

