-- ==== Sys2Proof/Machine/Tasks.lean ====
section
/-! DEFINITION. The operations of the Task Scheduler (chapter 4): creating and removing tasks, giving up a reservation
(R72), filling the queues (R71), skip counts and starvation (R78 to R82), and the selection of a carrier (R77). -/

namespace Sys2Proof.Machine

/-! ## Creating, removing and changing tasks -/

/-- Create a task in state UNRELEASED (R68). -/
def State.newTask (owner : Owner) (a : SlotAddr) (quantity week : Nat) (s : State) : State :=
  { s with
    waiting := s.waiting ++ [⟨s.nextTask, owner, a, quantity, week, .unreleased, 0, none⟩]
    nextTask := s.nextTask + 1 }

/-- Change the queue of every carousel. -/
def State.mapQueues (f : List Task → List Task) (s : State) : State :=
  { s with carousels := s.carousels.map fun c => { c with queue := f c.queue } }

/-- Remove a task wherever it stands (R69, R72). -/
def State.dropTask (id : Nat) (s : State) : State :=
  let s := s.mapQueues fun q => q.filter fun t => t.id ≠ id
  { s with waiting := s.waiting.filter fun t => t.id ≠ id }

/-- Make a SHOWN task WITHDRAWN; a PICK then stops starving (R72, R79). -/
def State.withdrawTask (id : Nat) (s : State) : State :=
  s.mapQueues fun q => q.map fun t => if t.id = id then { t with state := .withdrawn, starving := none } else t

/-- The tasks an owner test picks out, in the order in which they were written (R109). -/
def State.tasksWhere (s : State) (p : Task → Bool) : List Task :=
  (s.allTasks.filter p).insertionSort fun t u => t.id ≤ u.id

/-- A task belongs to an order (R68). -/
def Task.ofOrder (o : Fin 32) (t : Task) : Bool :=
  match t.owner with
  | .pick o' _ => o' = o
  | .place _ => false

/-- A task belongs to a line of an order (R68). -/
def Task.ofLine (o : Fin 32) (l : Nat) (t : Task) : Bool :=
  match t.owner with
  | .pick o' l' => o' = o && l' = l
  | .place _ => false

/-- A task belongs to a store (R68). -/
def Task.ofStore (p : Fin 16) (t : Task) : Bool :=
  match t.owner with
  | .pick _ _ => false
  | .place p' => p' = p

/-- The tasks of an order, in any state. -/
def State.orderTasks (s : State) (o : Fin 32) : List Task := s.tasksWhere (Task.ofOrder o)

/-- The tasks of a store, in any state. -/
def State.storeTasks (s : State) (p : Fin 16) : List Task := s.tasksWhere (Task.ofStore p)

/-! ## Giving up a reservation (R72) -/

/-- An ACCEPT being applied: its slot and the measured count (R182, R183). -/
structure Accepting where
  slot     : SlotAddr
  measured : Nat
  deriving DecidableEq, Repr

/-- The record of a slot after a task's reservation is released (R12). While an ACCEPT holds the slot's count off its
measured count, the same write moves the count toward it (R182, R183). -/
def releaseFrom (acc : Option Accepting) (cap : Nat) (t : Task) (r : Slot) : Slot :=
  let r := if t.isPick then { r with resOut := r.resOut - t.quantity } else { r with resIn := r.resIn - t.quantity }
  match acc with
  | none => r
  | some x =>
    if x.slot = t.slot then
      if t.isPick then { r with count := min r.count (max x.measured r.resOut) }
      else { r with count := max r.count (min x.measured (cap - r.resIn)) }
    else r

/-- Give up the reservation of a task (R72): the slot's reservation falls, and the task is removed, or becomes WITHDRAWN
if it is SHOWN. A WITHDRAWN task holds no reservation. -/
def State.giveUp (acc : Option Accepting) (t : Task) (s : State) : State :=
  match t.state with
  | .withdrawn => s
  | .shown => (s.changeSlot t.slot (releaseFrom acc (s.capacity t.slot) t)).withdrawTask t.id
  | .unreleased => (s.changeSlot t.slot (releaseFrom acc (s.capacity t.slot) t)).dropTask t.id
  | .queued => (s.changeSlot t.slot (releaseFrom acc (s.capacity t.slot) t)).dropTask t.id

/-- The tasks that a drop or a cancel gives up, in the order of its steps: the UNRELEASED and QUEUED ones (R101 step 1, R125
step 1), then the SHOWN ones (R101 step 2, R125 step 2). Within a step they keep the order in which they were written, since the
rules give none (DESIGN CHOICE, log 33). -/
def shownLast (ts : List Task) : List Task := ts.filter (·.state ≠ .shown) ++ ts.filter (·.state = .shown)

/-- Give up the reservations of tasks in the order of the steps of R101 and R125. -/
def State.giveUpAll (ts : List Task) (s : State) : State := s.forEach (shownLast ts) (State.giveUp none)

/-! ## Filling the queues (R71) -/

/-- Lexicographic order of keys. -/
def lexLe : List Nat → List Nat → Bool
  | [], _ => true
  | _ :: _, [] => false
  | x :: xs, y :: ys => if x < y then true else if y < x then false else lexLe xs ys

/-- The line number of a task, 0 for a PLACE. -/
def Task.line (t : Task) : Nat :=
  match t.owner with
  | .pick _ l => l
  | .place _ => 0

/-- Release order (R71): owner's work sequence number, line number, slot address. -/
def State.releaseKey (s : State) (t : Task) : List Nat :=
  [s.ownerSeq t, t.line, t.slot.carousel.val, t.slot.carrier, t.slot.column]

/-- A task is releasable (R71): its owner is a live store, or an order in PICKING. -/
def State.releasable (s : State) (t : Task) : Bool :=
  match t.owner with
  | .pick o _ => (s.order? o).any (·.state = .picking)
  | .place p => (s.store? p).isSome

/-- The releasable tasks that wait for a carousel (R71, R73). -/
def State.releasableFor (s : State) (k : Fin 4) : List Task :=
  s.waiting.filter fun t => t.slot.carousel = k && s.releasable t

/-- The tasks one fill moves into a carousel's queue, in order (R71). -/
def State.fillBatch (s : State) (k : Fin 4) : List Task :=
  ((s.releasableFor k).insertionSort fun t u => lexLe (s.releaseKey t) (s.releaseKey u)).take
    (Config.queueDepth - (s.car k).queue.length)

/-- Fill one carousel's queue (R71). -/
def State.fillQueue (k : Fin 4) (s : State) : State :=
  let batch := s.fillBatch k
  let s := s.modCar k fun c => { c with queue := c.queue ++ batch.map fun t => { t with state := .queued } }
  { s with waiting := s.waiting.filter fun t => !(batch.any fun u => u.id = t.id) }

/-- Fill every queue (R71). -/
def State.fillQueues (s : State) : State := s.forEach allCarousels State.fillQueue

/-! ## Skip counts and starvation (R78 to R82) -/

/-- A passed-over PICK: its skip count rises, and it may start starving (R78, R79). -/
def Task.passOver (l : Limits) (now : Nat) (t : Task) : Task :=
  let n := min 15 (t.skip + 1)
  { t with skip := n, starving := if t.starving.isNone && l.starves n then some now else t.starving }

/-- The entry to PRESENTING raises the skip counts of the QUEUED PICKs on other carriers (R78). -/
def State.raiseSkips (k : Fin 4) (carrier : Nat) (s : State) : State :=
  s.modCar k fun c =>
    { c with queue := c.queue.map fun t =>
        if t.isPick && t.state = .queued && t.slot.carrier ≠ carrier then t.passOver c.limits s.schedClock else t }

/-- The review of one task against newly applied limits (R82). -/
def Task.review (l : Limits) (now : Nat) (t : Task) : Task :=
  if t.isPick && t.state = .queued then
    if l.starves t.skip then { t with starving := some (t.starving.getD now) } else { t with starving := none }
  else t

/-- The review of a carousel's QUEUED PICKs against its limits (R82). -/
def State.review (k : Fin 4) (s : State) : State :=
  s.modCar k fun c => { c with queue := c.queue.map (Task.review c.limits s.schedClock) }

/-- The order code of a task's owner, 0 for a PLACE. -/
def State.orderCode (s : State) (t : Task) : Nat :=
  match t.owner with
  | .pick o _ => ((s.order? o).map (·.code)).getD 0
  | .place _ => 0

/-- A starving PICK's hold timer expires (R81): the skip count becomes 0, the PICK stops starving and PICK-STARVED is
sent. -/
def State.expireHold (k : Fin 4) (t : Task) (s : State) : State :=
  let starved := s.schedClock - t.starving.getD s.schedClock
  let s := s.modCar k fun c =>
    { c with queue := c.queue.map fun u => if u.id = t.id then { u with skip := 0, starving := none } else u }
  s.raise .pickStarved
    ([.u8 k.val] ++ addrFields t.slot ++ [.u16 (s.orderCode t), .u8 t.line, .u8 t.quantity, .u24 starved,
      .u8 (s.car k).state.code])

/-- A hold timer has run for the HOLD-TIMEOUT applied to its carousel (R81). -/
def Task.holdOver (l : Limits) (now : Nat) (t : Task) : Bool :=
  t.starving.any fun since => l.holdTimeout ≤ now - since

/-- The hold timers that a newly applied HOLD-TIMEOUT finds already run out expire at once (R81): several in queue arrival order,
after the notices of the marks and of creep (DESIGN CHOICE, log 29). -/
def State.expireHolds (k : Fin 4) (s : State) : State :=
  s.forEach ((s.car k).queue.filter (Task.holdOver (s.car k).limits s.schedClock)) (State.expireHold k)

/-! ## Selection (R77) -/

/-- The forward steps to bring a carrier to the opening (R53). -/
def Carousel.forwardSteps (c : Carousel) (carrier : Nat) : Nat :=
  subMod c.geometry.n (c.offsetFor carrier) c.offset

/-- The travel to a carrier and its direction (R53, R77): forward on a tie of the two ways. -/
def Carousel.travel (c : Carousel) (carrier : Nat) : Nat × Direction :=
  let d := c.forwardSteps carrier
  if d ≤ c.geometry.n - d then (d, .forward) else (c.geometry.n - d, .reverse)

/-- One carrier goes before another in test 2 and 3 of R77: smaller travel, then forward. -/
def Carousel.nearer (c : Carousel) (x y : Nat) : Bool :=
  (c.travel x).1 < (c.travel y).1 ||
    ((c.travel x).1 = (c.travel y).1 && (c.travel x).2 = .forward && (c.travel y).2 = .reverse)

/-- The nearest carrier with work (R77, tests 2 and 3). -/
def State.nearestWork (s : State) (k : Fin 4) : Option Nat :=
  ((List.range (s.car k).geometry.n).filter (s.hasWork k)).foldl (fun best c =>
    match best with
    | none => some c
    | some b => if (s.car k).nearer c b then some c else some b) none

/-- The selection (R77): the carrier of the oldest starving PICK if it has work, else the nearest carrier with work. -/
def State.select (s : State) (k : Fin 4) : Option Nat :=
  let forced :=
    if (s.car k).limits.starveMode = .off then none
    else ((s.car k).queue.find? Task.isStarving).bind fun t =>
      if s.hasWork k t.slot.carrier then some t.slot.carrier else none
  forced.orElse fun _ => s.nearestWork k

end Sys2Proof.Machine
end

