-- ==== Sys2Proof/Machine/Balance.lean ====
section
/-! DEFINITION. The operations of the Balance Unit over limits and trials (chapter 2): the arming mark (R35), the creep
decision (R37), applying limits (R50, R52), the trial picture (R31) and its tests (R32, R33). -/

namespace Sys2Proof.Machine

/-- The arming mark evaluated against the projected peak and the BALANCE-LIMIT in force (R35). -/
def State.evalMark (k : Fin 4) (s : State) : State :=
  let c := s.car k
  let above := c.limits.balanceLimit < c.projPeak
  let s' := s.modCar k fun c => { c with armed := !above }
  if c.armed && above then
    s'.raise .balanceHigh
      [.u8 k.val, .u16 (saturate c.projPeak), .u16 c.limits.balanceLimit, .u16 (saturate c.physPeak)]
  else s'

/-- The arming marks of the carousels whose projected loads the event changed (R35), the lowest carousel first (DESIGN CHOICE,
log 34). -/
def State.evalMarks (s before : State) : State :=
  s.forEach allCarousels fun k s => if (before.car k).proj = (s.car k).proj then s else s.evalMark k

/-- Write the creep flag, with its notice on a change (R37, R38). -/
def State.putCreep (k : Fin 4) (on : Bool) (s : State) : State :=
  let c := s.car k
  let fields : List Field := [.u8 k.val, .u16 (saturate c.physPeak), .u16 c.limits.driveLimit]
  if c.creep = on then s
  else (s.modCar k fun c => { c with creep := on }).raise (if on then .creepOn else .creepOff) fields

/-- The creep decision (R37): on exactly while the physical peak is above the DRIVE-LIMIT in force. -/
def State.decideCreep (k : Fin 4) (s : State) : State :=
  s.putCreep k ((s.car k).limits.driveLimit < (s.car k).physPeak)

/-- Apply a set of limits to a carousel (R36, R38, R50, R52, R81, R82): the mark is evaluated, creep is decided, the
starvation of its PICKs is reviewed, and hold timers already past the new HOLD-TIMEOUT expire. -/
def State.applyLimits (k : Fin 4) (l : Limits) (s : State) : State :=
  let s := s.modCar k fun c => { c with limits := l, staged := none }
  ((((s.evalMark k).decideCreep k).review k).expireHolds k)

/-! ## Trial pictures (R31 to R33) -/

/-- A trial picture (R31): the projected loads of every carousel, and the slots the attempt has used, one address for
each tyre, latest first. Withdrawing steps is going back to an earlier picture. -/
structure Trial where
  loads : Vector (List Nat) 4
  used  : List SlotAddr
  deriving DecidableEq, Repr

/-- The trial picture opened at the start of an attempt (R31). -/
def State.openTrial (s : State) : Trial := ⟨s.carousels.map (·.proj), []⟩

/-- The trial load of a carrier. -/
def Trial.load (tr : Trial) (k : Fin 4) (carrier : Nat) : Nat := ((tr.loads[k.val])[carrier]?).getD 0

/-- The trial picture with a carrier's load changed and a slot used once more. -/
def Trial.step (tr : Trial) (a : SlotAddr) (load : Nat) : Trial :=
  ⟨tr.loads.set a.carousel.val ((tr.loads[a.carousel.val]).set a.carrier load), a :: tr.used⟩

/-- One tyre of mass m placed in trial (R31). -/
def Trial.place (tr : Trial) (a : SlotAddr) (m : Nat) : Trial := tr.step a (tr.load a.carousel a.carrier + m)

/-- One tyre of mass m taken in trial (R31). -/
def Trial.take (tr : Trial) (a : SlotAddr) (m : Nat) : Trial := tr.step a (tr.load a.carousel a.carrier - m)

/-- The trial peak of a carousel (R31). -/
def State.trialPeak (s : State) (tr : Trial) (k : Fin 4) : Nat :=
  peak (s.car k).geometry.n tr.loads[k.val]

/-- The balance test of a step from one trial picture to the next (R32). -/
def State.balancePasses (s : State) (k : Fin 4) (before after : Trial) : Bool :=
  s.trialPeak after k ≤ (s.car k).limits.driveLimit || s.trialPeak after k ≤ s.trialPeak before k

/-- The carrier test of a placement (R33). -/
def State.carrierPasses (s : State) (tr : Trial) (a : SlotAddr) (m : Nat) : Bool :=
  tr.load a.carousel a.carrier + m ≤ (s.car a.carousel).limits.carrierMax

/-- The distinct slots of a list in the order in which each first stands in it, with how often each does (R97, R118). -/
def tally : List SlotAddr → List (SlotAddr × Nat)
  | [] => []
  | a :: rest => (a, (a :: rest).count a) :: (tally rest).filter fun p => p.1 ≠ a

end Sys2Proof.Machine
end

