-- ==== Sys2Proof/Machine/Placing.lean ====
section
/-! DEFINITION. The operations of the Placement Engine (chapter 5): choosing slots in trial (R94, R95, R96), committing
(R97), freeing stores (R98, R99), and re-placing revoked places (R104 to R106). -/

namespace Sys2Proof.Machine

/-- What a placement places: article position, mass, class, week and target, and the slots it may not use (R105). -/
structure PlaceJob where
  article  : Nat
  mass     : Nat
  cls      : Nat
  week     : Nat
  target   : Option (Fin 4)
  excluded : List SlotAddr
  deriving DecidableEq, Repr

/-- A slot holds the job's article and week, in the Slot Table or in trial (R94, R95). -/
def State.holdsJob (s : State) (j : PlaceJob) (tr : Trial) (a : SlotAddr) : Bool :=
  (s.slot a).held = some ⟨j.article, j.week⟩ || tr.used.contains a

/-- A slot is empty (R94). -/
def Slot.isEmpty (r : Slot) : Bool := r.held = none && r.count = 0 && r.resIn = 0

/-- A slot is a candidate for one tyre of a job (R94). -/
def State.placeCandidate (s : State) (j : PlaceJob) (tr : Trial) (a : SlotAddr) : Bool :=
  (s.car a.carousel).serviceable
    && (j.target.all fun k => k = a.carousel)
    && !j.excluded.contains a
    && s.slotClass a = j.cls
    && !s.noStore a && !s.noHandle a
    && !(s.slot a).disputed && !(s.slot a).suspect
    && (s.slot a).count + (s.slot a).resIn + tr.used.count a < s.capacity a
    && (s.holdsJob j tr a || (s.slot a).isEmpty)
    && s.carrierPasses tr a j.mass
    && s.balancePasses a.carousel tr (tr.place a j.mass)

/-- One candidate goes before another, the second standing first in address order (R95). -/
def State.prefers (s : State) (j : PlaceJob) (tr : Trial) (x y : SlotAddr) : Bool :=
  let hx := s.holdsJob j tr x
  let hy := s.holdsJob j tr y
  if hx = hy then
    s.trialPeak (tr.place x j.mass) x.carousel < s.trialPeak (tr.place y j.mass) y.carousel
  else hx

/-- The slot one step chooses (R95): the preferred candidate, the lowest address among equals. -/
def State.choosePlace (s : State) (j : PlaceJob) (tr : Trial) : Option SlotAddr :=
  (s.allAddrs.filter (s.placeCandidate j tr)).foldl (fun best a =>
    match best with
    | none => some a
    | some b => if s.prefers j tr a b then some a else some b) none

/-- The outcome of a placement: every tyre has its slot, in order; or it failed with so many placed in trial (R96). -/
inductive Placed where
  | all (slots : List SlotAddr)
  | failed (placed : Nat)
  deriving DecidableEq, Repr

/-- The steps of a placement (section 5.2.1), from a trial picture. -/
def State.placeSteps (s : State) (j : PlaceJob) : Nat → Trial → Placed
  | 0, tr => .all tr.used.reverse
  | n + 1, tr =>
    match s.choosePlace j tr with
    | none => .failed tr.used.length
    | some a => s.placeSteps j n (tr.place a j.mass)

/-- The slot records a placement or allocation scan reads (R94, R115): those of every serviceable carousel (section 1.4, log 8), in
slot-address order (DESIGN CHOICE, log 33). -/
def State.scanAddrs (s : State) : List SlotAddr :=
  (allCarousels.filter fun k => (s.car k).serviceable).flatMap s.addrs

/-- The reads of a scan. -/
def State.scan (s : State) : State := s.touchAll s.scanAddrs

/-- Write one entry of a committed placement: the slot's reserved-in, its article and week if it was empty, and the
PLACE task (R97, steps 3 and 4). -/
def State.commitPlace (p : Fin 16) (held : Held) (e : SlotAddr × Nat) (s : State) : State :=
  let s := s.changeSlot e.1 fun r => { r with held := some (r.held.getD held), resIn := r.resIn + e.2 }
  s.newTask (.place p) e.1 e.2 held.week

/-- Write the entries of a committed placement (R97). -/
def State.commitPlaces (p : Fin 16) (held : Held) (es : List (SlotAddr × Nat)) (s : State) : State :=
  s.forEach es (State.commitPlace p held)

/-- The confirmed count of a store: the sum over its entries (R91). -/
def Store.confirmedCount (r : Store) : Nat := (r.placements.map (·.confirmed)).sum

/-- A WITHDRAWN task of a store stands in a queue (R98). -/
def State.storeWithdrawn (s : State) (p : Fin 16) : Bool :=
  s.allTasks.any fun t => t.ofStore p && t.state = .withdrawn

/-- Free a store record, or make it CLOSING while a WITHDRAWN task of it remains (R98). -/
def State.finishStore (p : Fin 16) (s : State) : State :=
  match s.store? p with
  | none => s
  | some r => if s.storeWithdrawn p then s.setStore p (some { r with state := .closing }) else s.setStore p none

/-- The notice STORED (R99). -/
def State.raiseStored (r : Store) (s : State) : State :=
  s.raise .stored
    ([.u8 r.number, .u16 (s.codeOf (some ⟨r.article, r.week⟩)), .u16 r.week, .u8 r.quantity] ++
      listFields (r.placements.map fun e => addrFields e.slot ++ [.u8 e.confirmed]))

/-- A store whose confirmed count has reached its quantity is complete (R99). -/
def State.completeStore (p : Fin 16) (s : State) : State :=
  match s.store? p with
  | none => s
  | some r => if r.confirmedCount = r.quantity then (s.raiseStored r).finishStore p else s

/-- A placement entry's confirmed quantity raised (R99). -/
def Placement.confirm (a : SlotAddr) (q : Nat) (e : Placement) : Placement :=
  if e.slot = a then { e with confirmed := e.confirmed + q } else e

/-- The Placement Engine is told of a confirmed PLACE (R85, R99). -/
def State.storeConfirmed (p : Fin 16) (t : Task) (s : State) : State :=
  match s.store? p with
  | none => s
  | some r =>
    (s.setStore p (some { r with placements := r.placements.map (Placement.confirm t.slot t.quantity) })).completeStore p

/-- The Placement Engine is told that a WITHDRAWN PLACE has gone (R103). -/
def State.storeTaskGone (p : Fin 16) (s : State) : State :=
  match s.store? p with
  | none => s
  | some r => if r.state = .closing then s.finishStore p else s

/-- The placements of a store after it loses q places on a slot (R101, R104). -/
def losePlaces (a : SlotAddr) (q : Nat) (es : List Placement) : List Placement :=
  (es.map fun e => if e.slot = a then { e with placed := e.placed - q } else e).filter fun e =>
    e.placed ≠ 0 || e.confirmed ≠ 0

/-- A placement that a store's revoked quantity is placed by (R105). -/
def State.replaceJob (s : State) (p : Fin 16) (r : Store) (from' : SlotAddr) : PlaceJob :=
  let art := s.article? r.article
  { article := r.article
    mass := (art.map (·.mass)).getD 0
    cls := (art.map (·.cls)).getD 0
    week := r.week
    target := r.target
    excluded := from' :: ((s.storeTasks p).map (·.slot) ++ r.placements.map (·.slot)) }

/-- A re-placement that failed (R106). -/
def State.failReplace (p : Fin 16) (r : Store) (a : SlotAddr) (q : Nat) (s : State) : State :=
  let r := { r with quantity := r.quantity - q }
  let s := (s.setStore p (some r)).raise .storeFailed
    ([.u8 r.number, .u16 (s.codeOf (some ⟨r.article, r.week⟩)), .u16 r.week] ++ addrFields a ++
      [.u8 q, .u8 r.quantity])
  if r.confirmedCount < r.quantity then s
  else if 0 < r.quantity then s.completeStore p
  else s.finishStore p

/-- The re-placement of a revoked quantity (R105, R106). -/
def State.replace (p : Fin 16) (a : SlotAddr) (q : Nat) (s : State) : State :=
  let s := s.scan
  match s.store? p with
  | none => s
  | some r =>
    match s.placeSteps (s.replaceJob p r a) q s.openTrial with
    | .failed _ => s.failReplace p r a q
    | .all slots =>
      let es := tally slots
      let s := s.commitPlaces p ⟨r.article, r.week⟩ es
      s.setStore p (some { r with placements := r.placements ++ es.map fun e => ⟨e.1, e.2, 0⟩ })

/-- The revocation of one PLACE and its re-placement (R104, R183). -/
def State.revokePlace (acc : Accepting) (t : Task) (s : State) : State :=
  match t.owner with
  | .pick _ _ => s
  | .place p =>
    let s := s.giveUp (some acc) t
    match s.store? p with
    | none => s
    | some r => (s.setStore p (some { r with placements := losePlaces t.slot t.quantity r.placements })).replace p t.slot
        t.quantity

end Sys2Proof.Machine
end

