-- ==== Sys2Proof/Machine/Allocating.lean ====
section
/-! DEFINITION. The operations of the Allocation Engine (chapter 6): candidates and trial takes (R114 to R117), committing
(R118), order records and their ends, the PENDING retry (R123), and re-allocation (R128 to R130); with the lane record
writes these call for (R142). -/

namespace Sys2Proof.Machine

/-! ## Allocation in trial -/

/-- What one line asks of an attempt: its article, how many tyres, whether it is a set line, and the weeks it has
dispatched already (R116, R117, R129). -/
structure LineJob where
  article  : Nat
  quantity : Nat
  set      : Bool
  span     : Option (Nat × Nat)
  deriving DecidableEq, Repr

/-- The week of a slot's stock. -/
def State.weekOf (s : State) (a : SlotAddr) : Nat := ((s.slot a).held.map (·.week)).getD 0

/-- The age of a week at the current week, 0 when it is later (R115). -/
def State.age (s : State) (week : Nat) : Nat := s.week - week

/-- The trial availability of a slot (R115). -/
def State.trialAvailable (s : State) (tr : Trial) (a : SlotAddr) : Nat :=
  (s.slot a).available - tr.used.count a

/-- A slot is a candidate for a line of an article as the line begins (R115). -/
def State.takeCandidate (s : State) (article : Nat) (tr : Trial) (a : SlotAddr) : Bool :=
  ((s.slot a).held.map (·.article)) = some article
    && (s.car a.carousel).serviceable
    && !(s.slot a).disputed && !(s.slot a).suspect && !s.noHandle a
    && 0 < s.trialAvailable tr a
    && s.age (s.weekOf a) ≤ ((s.article? article).map (·.maxAge)).getD 0

/-- The candidates of a line, by week and then by slot address (R115). -/
def State.takeCandidates (s : State) (article : Nat) (tr : Trial) : List SlotAddr :=
  (s.allAddrs.filter (s.takeCandidate article tr)).insertionSort fun a b => s.weekOf a ≤ s.weekOf b

/-- Where a line stands: the trial picture, the slots taken from (latest first) and the slots dropped (R116). -/
structure Filling where
  trial   : Trial
  taken   : List SlotAddr
  dropped : List SlotAddr
  deriving DecidableEq, Repr

/-- One step of R116: walk the candidates from the head; take from the first that has availability, is not dropped and
passes the balance test; drop those that fail it. The flag says whether a tyre was taken. -/
def State.takeStep (s : State) (mass : Nat) : List SlotAddr → Filling → Bool × Filling
  | [], f => (false, f)
  | a :: rest, f =>
    if s.trialAvailable f.trial a = 0 || f.dropped.contains a then s.takeStep mass rest f
    else if s.balancePasses a.carousel f.trial (f.trial.take a mass) then
      (true, { f with trial := f.trial.take a mass, taken := a :: f.taken })
    else s.takeStep mass rest { f with dropped := a :: f.dropped }

/-- The steps of a line: one tyre each (R116). The flag says whether every tyre was taken. -/
def State.takeSteps (s : State) (mass : Nat) (cands : List SlotAddr) : Nat → Filling → Bool × Filling
  | 0, f => (true, f)
  | n + 1, f =>
    match s.takeStep mass cands f with
    | (true, f') => s.takeSteps mass cands n f'
    | (false, f') => (false, f')

/-- A week lies in the window starting at w0 (R117). -/
def State.inWindow (s : State) (w0 : Nat) (a : SlotAddr) : Bool :=
  w0 ≤ s.weekOf a && s.weekOf a ≤ w0 + s.setSpread

/-- The windows of a set line, one starting week after another (R117): takes are withdrawn, drops stay. -/
def State.takeWindows (s : State) (mass quantity : Nat) (cands : List SlotAddr) :
    List Nat → Filling → Bool × Filling
  | [], f => (false, f)
  | w0 :: rest, f =>
    match s.takeSteps mass (cands.filter (s.inWindow w0)) quantity f with
    | (true, f') => (true, f')
    | (false, f') => s.takeWindows mass quantity cands rest { f with dropped := f'.dropped }

/-- Distinct weeks, ascending. -/
def distinctWeeks (ws : List Nat) : List Nat := (ws.insertionSort (· ≤ ·)).destutter (· ≠ ·)

/-- The starting weeks of a set line (R117, R129): with tyres dispatched, the lowest dispatched week joins them, and a week
is kept when its window holds every dispatched week. -/
def State.startingWeeks (s : State) (j : LineJob) (cands : List SlotAddr) : List Nat :=
  match j.span with
  | none => distinctWeeks (cands.map s.weekOf)
  | some (lo, hi) =>
    (distinctWeeks (lo :: cands.map s.weekOf)).filter fun w0 => w0 ≤ lo && hi ≤ w0 + s.setSpread

/-- A line filled in trial: the slots of its tyres in the order taken, and the trial picture after (R116, R117). -/
def State.takeLine (s : State) (j : LineJob) (tr : Trial) : Option (List SlotAddr × Trial) :=
  let mass := ((s.article? j.article).map (·.mass)).getD 0
  let cands := s.takeCandidates j.article tr
  let start : Filling := ⟨tr, [], []⟩
  let r := if j.set then s.takeWindows mass j.quantity cands (s.startingWeeks j cands) start
    else s.takeSteps mass cands j.quantity start
  if r.1 then some (r.2.taken.reverse, r.2.trial) else none

/-- An attempt: every line in line order, or none (R114). -/
def State.takeLines (s : State) : List LineJob → Trial → Option (List (List SlotAddr))
  | [], _ => some []
  | j :: rest, tr =>
    match s.takeLine j tr with
    | none => none
    | some (slots, tr') => (s.takeLines rest tr').map (slots :: ·)

/-! ## Orders -/

/-- The total quantity of an order (R108). -/
def Order.total (r : Order) : Nat := (r.lines.map (·.quantity)).sum

/-- The dispatched total of an order (R108). -/
def Order.dispatchedTotal (r : Order) : Nat := (r.lines.map (·.dispatched)).sum

/-- Write the state of an order. -/
def State.setOrderState (o : Fin 32) (st : OrderState) (s : State) : State :=
  s.setOrder o ((s.order? o).map fun r => { r with state := st })

/-- Write one slot's share of a filled line: reserved-out and the PICK task with the slot's week (R118). -/
def State.commitTake (o : Fin 32) (l : Nat) (e : SlotAddr × Nat) (s : State) : State :=
  let s := s.changeSlot e.1 fun r => { r with resOut := r.resOut + e.2 }
  s.newTask (.pick o l) e.1 e.2 (s.weekOf e.1)

/-- Write a filled line (R118, steps 1 and 2). -/
def State.commitLine (o : Fin 32) (l : Nat) (slots : List SlotAddr) (s : State) : State :=
  s.forEach (tally slots) (State.commitTake o l)

/-- Write the filled lines of an attempt, numbered from l (R118). -/
def State.commitLines (o : Fin 32) : Nat → List (List SlotAddr) → State → State
  | _, [], s => s
  | l, x :: rest, s => State.commitLines o (l + 1) rest (s.commitLine o l x)

/-- The jobs of a new order's lines (R116, R117). -/
def Order.jobs (r : Order) : List LineJob := r.lines.map fun x => ⟨x.article, x.quantity, x.set, none⟩

/-- An allocation attempt for an order, after the scan's reads: it becomes ALLOCATED, or stays as it was (R114, R118). -/
def State.attempt (o : Fin 32) (s : State) : State :=
  match s.order? o with
  | none => s
  | some r =>
    match s.takeLines r.jobs s.openTrial with
    | none => s
    | some picks => (s.commitLines o 1 picks).setOrderState o .allocated

/-- An order is in a state. -/
def State.orderIs (s : State) (o : Fin 32) (st : OrderState) : Bool := (s.order? o).any (·.state = st)

/-- The positions of all order records (R108). -/
def allOrders : List (Fin 32) := List.finRange 32

/-- Retry order (R108): higher priority, then lower work sequence number. -/
def State.retryKey (s : State) (o : Fin 32) : List Nat :=
  match s.order? o with
  | none => []
  | some r => [3 - r.priority, r.seq]

/-- The PENDING orders in retry order (R123). -/
def State.pendingOrders (s : State) : List (Fin 32) :=
  (allOrders.filter fun o => s.orderIs o .pending).insertionSort fun a b => lexLe (s.retryKey a) (s.retryKey b)

/-- One attempt of a retry, with ORDER-ALLOCATED on success (R123). -/
def State.retryOne (o : Fin 32) (s : State) : State :=
  let s' := s.attempt o
  match s'.order? o with
  | none => s'
  | some r =>
    if r.state = .allocated then s'.raise .orderAllocated [.u16 r.code, .u8 r.priority, .u32 r.seq] else s'

/-- The PENDING retry (R123): one scan's reads, then an attempt for every PENDING order. -/
def State.retryPending (s : State) : State :=
  if s.pendingOrders.isEmpty then s
  else
    let s := s.scan
    s.forEach s.pendingOrders State.retryOne

/-! ## Lanes and orders that end (R127, R142) -/

/-- The lane record freed with an order that dispatched nothing (R142): OVERFLOW and the arrived count are kept. -/
def Lane.freed (x : Lane) : Lane :=
  { x with state := .free, order := none, expected := 0, dispatched := 0, late := false, short := false,
           orphan := false, timer := none }

/-- Free an order record and the lane it holds, if any (R125 step 3, R127, R142). -/
def State.freeOrder (o : Fin 32) (s : State) : State :=
  match s.order? o with
  | none => s
  | some r =>
    let s := s.setOrder o none
    match r.lane with
    | none => s
    | some l => s.setLane l (s.lane l).freed

/-- Tell the lane that its order became SHORT or CANCELLED (R142): expected becomes the dispatched total. -/
def State.cutLane (o : Fin 32) (short orphan : Bool) (s : State) : State :=
  match s.order? o with
  | none => s
  | some r =>
    match r.lane with
    | none => s
    | some l =>
      let x := s.lane l
      s.setLane l { x with expected := r.dispatchedTotal, short := x.short || short, orphan := x.orphan || orphan }

/-! ## Re-allocation after a revocation (R128 to R130) -/

/-- Give up every reservation of a line of an order (R129, step 1), in the order in which the tasks were written (DESIGN CHOICE,
log 33). -/
def State.giveUpLine (acc : Option Accepting) (o : Fin 32) (l : Nat) (s : State) : State :=
  s.forEach (s.tasksWhere (Task.ofLine o l)) (State.giveUp acc)

/-- Give up every reservation of an order (R130), in the order in which the tasks were written (DESIGN CHOICE, log 33). -/
def State.giveUpOrder (acc : Option Accepting) (o : Fin 32) (s : State) : State :=
  s.forEach (s.orderTasks o) (State.giveUp acc)

/-- The notice ORDER-SHORT (R130). -/
def State.raiseShort (o : Fin 32) (l : Nat) (s : State) : State :=
  match s.order? o with
  | none => s
  | some r =>
    s.raise .orderShort
      ([.u16 r.code, .u8 l, .u8 r.state.code] ++ optU8 (r.lane.map (·.val)) ++ [.u8 r.total, .u8 r.dispatchedTotal])

/-- A line that could not be filled again (R130): an ALLOCATED order becomes PENDING, a PICKING order SHORT. -/
def State.failLine (acc : Option Accepting) (o : Fin 32) (l : Nat) (s : State) : State :=
  let s' := s.giveUpOrder acc o
  if s.orderIs o .allocated then (s'.setOrderState o .pending).raiseShort o l
  else ((s'.setOrderState o .short).cutLane o true false).raiseShort o l

/-- The re-allocation of a line (R129, R130). -/
def State.reallocate (acc : Option Accepting) (o : Fin 32) (l : Nat) (s : State) : State :=
  let s := (s.giveUpLine acc o l).scan
  match (s.order? o).bind fun r => r.lines[l - 1]? with
  | none => s
  | some x =>
    match s.takeLine ⟨x.article, x.quantity - x.dispatched, x.set, x.span⟩ s.openTrial with
    | none => s.failLine acc o l
    | some (slots, _) => s.commitLine o l slots

/-- The revocation of one PICK (R128, R182). -/
def State.revokePick (acc : Accepting) (t : Task) (s : State) : State :=
  match t.owner with
  | .place _ => s
  | .pick o l =>
    if s.orderIs o .allocated || s.orderIs o .picking then s.reallocate (some acc) o l
    else s.giveUp (some acc) t

end Sys2Proof.Machine
end

