-- ==== Sys2Proof/Machine/Routing.lean ====
section
/-! DEFINITION. The operations of the Lane Controller (chapter 7): dispatches (R137), the judgement of a lane (R140), the
arbiter and its grants (R135, R136), collection (R144) and the clearing of OVERFLOW (R145). -/

namespace Sys2Proof.Machine

/-- A lane's arrivals are settled (R140). -/
def Lane.settled (x : Lane) : Bool := x.arrived = x.dispatched || (x.dispatched < x.arrived && x.overflow)

/-- A lane is eligible for a grant (R135). -/
def Lane.eligible (x : Lane) : Bool := x.state = .free && !x.overflow

/-- A dispatch of q tyres reaches a lane (R137). -/
def Lane.dispatch (q timeoutSeconds now : Nat) (x : Lane) : Lane :=
  let y := { x with
    dispatched := x.dispatched + q
    expected := if x.short || x.orphan then x.expected + q else x.expected }
  if y.arrived < y.dispatched then { y with timer := some (now + timeoutSeconds * 1000) } else y

/-- A line's dispatched count, weeks and CONFIRMED entries after a dispatch (R120). -/
def Line.dispatch (t : Task) (x : Line) : Line :=
  { x with
    dispatched := x.dispatched + t.quantity
    span := some (match x.span with
      | none => (t.week, t.week)
      | some (lo, hi) => (min lo t.week, max hi t.week))
    confirmed := x.confirmed ++ [⟨t.id, t.slot, t.quantity, t.week⟩] }

/-- The Allocation Engine and the Lane Controller are told of a confirmed PICK (R84, R120, R137). -/
def State.pickConfirmed (o : Fin 32) (l : Nat) (t : Task) (s : State) : State :=
  match s.order? o with
  | none => s
  | some r =>
    let s := s.setOrder o (some { r with lines := r.lines.modify (l - 1) (Line.dispatch t) })
    match r.lane with
    | none => s
    | some x => s.setLane x ((s.lane x).dispatch t.quantity s.transitTimeout s.laneClock)

/-- The notice ORDER-READY (R140). Its OVERFLOW mark is also the presence mark of the excess (DESIGN CHOICE, log 13). -/
def State.raiseReady (l : Fin 8) (r : Order) (s : State) : State :=
  let x := s.lane l
  s.raise .orderReady
    [.u8 l.val, .u16 r.code, .u8 r.state.code, .mark x.short, .mark x.orphan, .u8 r.total, .u8 x.expected,
      .u8 x.dispatched, .u8 x.arrived, .mark x.overflow,
      .u8 (if x.overflow then x.arrived - x.dispatched else 0)]

/-- A lane settles with tyres dispatched: it becomes READY, and a PICKING order COMPLETE (R121, R140). -/
def State.readyLane (l : Fin 8) (o : Fin 32) (s : State) : State :=
  let s := s.setLane l { s.lane l with state := .ready, timer := none, late := false }
  let s := if s.orderIs o .picking then s.setOrderState o .complete else s
  match s.order? o with
  | none => s
  | some r => s.raiseReady l r

/-- The judgement of a lane (R140): a FILLING lane whose order holds no task, with dispatched equal to expected and its
arrivals settled, becomes READY, or is freed with its order when nothing was dispatched (R127, R142). -/
def State.judgeLane (l : Fin 8) (s : State) : State :=
  let x := s.lane l
  match x.order with
  | none => s
  | some o =>
    if x.state = .filling && (s.orderTasks o).isEmpty && x.dispatched = x.expected && x.settled then
      if x.dispatched = 0 then s.freeOrder o else s.readyLane l o
    else s

/-- The event touched what a lane's judgement reads: its record, its order's state, or its order's tasks (R140). -/
def State.laneTouched (before s : State) (l : Fin 8) : Bool :=
  before.lane l ≠ s.lane l ||
    (s.lane l).order.any fun o =>
      (before.order? o).map (·.state) ≠ (s.order? o).map (·.state) || before.orderTasks o ≠ s.orderTasks o

/-- The judgements at the close of an event (R140), the lowest lane first (DESIGN CHOICE, log 29). -/
def State.judgeLanes (s before : State) : State :=
  s.forEach allLanes fun l s => if before.laneTouched s l then s.judgeLane l else s

/-- Grant order (R135): the ALLOCATED orders by priority and then by work sequence number. -/
def State.allocatedOrders (s : State) : List (Fin 32) :=
  (allOrders.filter fun o => s.orderIs o .allocated).insertionSort fun a b => lexLe (s.retryKey a) (s.retryKey b)

/-- The eligible lanes, lowest first (R135). -/
def State.eligibleLanes (s : State) : List (Fin 8) := allLanes.filter fun l => (s.lane l).eligible

/-- A grant (R136). -/
def State.grant (g : Fin 32 × Fin 8) (s : State) : State :=
  match s.order? g.1 with
  | none => s
  | some r =>
    (s.setOrder g.1 (some { r with state := .picking, lane := some g.2 })).setLane g.2
      { s.lane g.2 with
        state := .filling, order := some g.1, expected := r.total, dispatched := 0, arrived := 0, overflow := false,
        late := false, short := false, orphan := false, timer := none }

/-- The lane arbiter (R135): ALLOCATED orders take eligible lanes, lowest first, while both last. -/
def State.arbitrate (s : State) : State := s.forEach (s.allocatedOrders.zip s.eligibleLanes) State.grant

/-- The event made an order ALLOCATED or a lane eligible, so the arbiter runs (R135). An order that left ALLOCATED and came
back to it in one event waited for want of an eligible lane, so it is granted one only if a lane became eligible too. -/
def State.arbiterDue (before s : State) : Bool :=
  (allOrders.any fun o => s.orderIs o .allocated && !before.orderIs o .allocated)
    || (allLanes.any fun l => (s.lane l).eligible && !(before.lane l).eligible)

/-- What a clear did (R143). -/
inductive Cleared where
  | collected (code arrived : Nat)
  | overflow (arrived : Nat)
  | nothing
  deriving DecidableEq, Repr

/-- What a clear of a lane does as the lane stands (R143). -/
def State.clearKind (s : State) (l : Fin 8) : Cleared :=
  let x := s.lane l
  match x.state with
  | .ready => .collected ((x.order.bind s.order?).map (·.code) |>.getD 0) x.arrived
  | .free => if x.overflow then .overflow x.arrived else .nothing
  | .filling => .nothing

/-- The notice ORDER-COLLECTED (R144). -/
def State.raiseCollected (l : Fin 8) (r : Order) (arrived : Nat) (s : State) : State :=
  s.raise .orderCollected
    [.u8 l.val, .u16 r.code, .u8 r.state.code, .u8 r.dispatchedTotal, .u8 arrived]

/-- The collection of a READY lane (R144, steps 1 to 3). -/
def State.collect (l : Fin 8) (s : State) : State :=
  let x := s.lane l
  let s' := match x.order with
    | none => s
    | some o =>
      match s.order? o with
      | none => s
      | some r => (s.setOrder o none).raiseCollected l r x.arrived
  s'.setLane l Lane.initial

/-- A clear of a lane by key or request (R143 to R145), before the close of the event. -/
def State.clearLane (l : Fin 8) (s : State) : State :=
  match s.clearKind l with
  | .collected _ _ => s.collect l
  | .overflow _ => s.setLane l { s.lane l with overflow := false, arrived := 0 }
  | .nothing => s

end Sys2Proof.Machine
end

