-- ==== Sys2Proof/Machine/Auditing.lean ====
section
/-! DEFINITION. The operations of the Audit Controller (chapter 9): discrepancy entries (R175 to R177), count and verify
results (R172 to R174), the cursor of a sweep (R165 to R167) and the end of an audit (R167, R169). -/

namespace Sys2Proof.Machine

/-! ## The discrepancy list (R175 to R177) -/

/-- A carousel's generation rises by 1 (R177). -/
def State.bumpGeneration (k : Fin 4) (s : State) : State :=
  s.modCar k fun c => { c with generation := (c.generation + 1) % 65536 }

/-- Remove the entry that names a slot, if one does (R175, R177). -/
def State.removeEntry (a : SlotAddr) (s : State) : State :=
  if s.named a then { s with entries := s.entries.filter fun e => e.slot ≠ a }.bumpGeneration a.carousel else s

/-- Entries found rises by 1 while an audit is open (R173). -/
def Carousel.countFound (c : Carousel) : Carousel :=
  if c.audit = .none then c else { c with found := min 65535 (c.found + 1) }

/-- The notice COUNTS-PAUSED (R176). -/
def State.raisePaused (a : SlotAddr) (s : State) : State :=
  s.raise .countsPaused ([.u8 s.entries.length, .u8 a.carousel.val] ++ addrFields a)

/-- Add an entry at the tail, in place of an older one for the slot (R173, R175 to R177). -/
def State.addEntry (e : Entry) (s : State) : State :=
  let fill := s.entries.length
  let s := s.removeEntry e.slot
  let s := { s with entries := s.entries ++ [e] }.bumpGeneration e.slot.carousel
  let s := s.modCar e.slot.carousel Carousel.countFound
  if fill < Config.listDepth ∧ s.entries.length = Config.listDepth then s.raisePaused e.slot else s

/-- An entry can be made for a slot (R172, R174). -/
def State.entryFits (s : State) (a : SlotAddr) : Bool := !s.listFull || s.named a

/-- The origin of an entry made from a count (R173). -/
def countOrigin (r : Slot) (estimate : Nat) : Origin :=
  if r.suspect then .suspect else if r.held = none ∧ 0 < estimate then .phantom else .sweep

/-- The entry of a result (R173, R174). -/
def State.entryFor (s : State) (a : SlotAddr) (origin : Origin) (e : Estimate) : Entry :=
  { slot := a
    origin := origin
    stock := (s.slot a).held.map fun h => (s.codeOf (some h), h.week)
    recorded := (s.slot a).count
    measured := e.estimate
    overheight := e.overheight }

/-- A COUNT result is applied (R172). -/
def State.countResult (a : SlotAddr) (e : Estimate) (s : State) : State :=
  let r := s.slot a
  if !r.due then s
  else if e.estimate = r.count ∧ !r.suspect ∧ !s.named a then (s.clearDue a).putDisputed a false
  else if s.entryFits a then
    ((s.addEntry (s.entryFor a (countOrigin r e.estimate) e)).putDisputed a true).clearDue a
  else (s.putDisputed a true).unmark a

/-- A VERIFY result is applied (R174). -/
def State.verifyResult (a : SlotAddr) (e : Estimate) (s : State) : State :=
  if e.estimate = (s.slot a).count then s
  else if s.entryFits a then (s.addEntry (s.entryFor a .verify e)).putDisputed a true
  else (s.putDisputed a true).setDue a

/-! ## Sweeps (R165 to R168) -/

/-- The first carrier of a range met at the opening from a carrier onward, in forward running (R165). -/
def meetFrom (n first last : Nat) : Nat → Nat → Nat
  | 0, c => c
  | f + 1, c => if covers first last c then c else meetFrom n first last f (subMod n c 1)

/-- A carrier becomes the cursor carrier (R166): each slot neither DISPUTED nor COUNT_DUE is set COUNT_DUE and marked. The
marks, a set in R163, are kept and sent in ascending column order (DESIGN CHOICE, log 13). -/
def State.setCursor (k : Fin 4) (w : Sweep) (s : State) : State :=
  let s := s.touchAll (s.carrierAddrs k w.cursor)
  let fresh := (List.range (s.car k).geometry.s).filter fun j =>
    !((s.car k).slot w.cursor j).disputed && !((s.car k).slot w.cursor j).due
  let s := s.forEach fresh fun j s => s.flagSlot ⟨k, w.cursor, j⟩ fun r => { r with due := true }
  s.modCar k fun c => { c with audit := .sweep { w with marks := fresh } }

/-- The range of an audit, one optional field (R163, R191): a mark byte, then the first and the last carrier, or zeros. -/
def rangeFields (range : Option (Nat × Nat)) : List Field :=
  optGroup [.u8 0, .u8 0] (range.map fun r => [.u8 r.1, .u8 r.2])

/-- The notice AUDIT-DONE (R167, R169). That of a SUSPECT audit carries the range as absent (DESIGN CHOICE, log 13). -/
def State.raiseDone (k : Fin 4) (kind : Nat) (range : Option (Nat × Nat)) (s : State) : State :=
  s.raise .auditDone
    ([.u8 k.val, .u8 kind] ++ rangeFields range ++ [.u16 (s.car k).found])

/-- The test of an open sweep, made again for each carrier it passes (R167). The first argument bounds the carriers
passed in one event. -/
def State.advanceSweep (k : Fin 4) : Nat → State → State
  | 0, s => s
  | f + 1, s =>
    match (s.car k).audit with
    | .sweep w =>
      if ((s.car k).dueColumns w.cursor).isEmpty && !(s.car k).hold then
        if w.remaining ≤ 1 then
          (s.modCar k fun c => { c with audit := .none }).raiseDone k 0 (some (w.first, w.last))
        else
          let n := (s.car k).geometry.n
          let next := meetFrom n w.first w.last n (subMod n w.cursor 1)
          State.advanceSweep k f
            (s.setCursor k { w with cursor := next, remaining := w.remaining - 1, marks := [] })
      else s
    | .suspect => s
    | .none => s

/-- The test of an open audit: of a sweep (R167), or of a SUSPECT audit (R169). -/
def State.testAudit (k : Fin 4) (s : State) : State :=
  match (s.car k).audit with
  | .none => s
  | .sweep _ => s.advanceSweep k 48
  | .suspect =>
    if (s.car k).slots.any fun r => r.suspect && r.due then s
    else (s.modCar k fun c => { c with audit := .none }).raiseDone k 1 none

/-- Some slot of a carousel lost COUNT_DUE or SUSPECT in the event (R167, R169). -/
def Carousel.flagsCleared (before c : Carousel) : Bool :=
  (before.slots.zip c.slots).any fun p => (p.1.due && !p.2.due) || (p.1.suspect && !p.2.suspect)

/-- The event calls for the test of a carousel's audit (R167, R169): it started the audit, cleared a flag, or ended the
hold. -/
def Carousel.auditTouched (before c : Carousel) : Bool :=
  (before.audit = .none && c.audit ≠ .none) || before.flagsCleared c || (before.hold && !c.hold)

/-- The audit tests at the close of an event, the lowest carousel first (DESIGN CHOICE, log 34). -/
def State.testAudits (s before : State) : State :=
  s.forEach allCarousels fun k s => if (before.car k).auditTouched (s.car k) then s.testAudit k else s

end Sys2Proof.Machine
end

