-- ==== Sys2Proof/Machine/Presenting.lean ====
section
/-! DEFINITION. The operations of the Drive Controllers and Gauge Units (chapters 3 and 8): measurements (R150 to R160),
presentations and their phases (R62 to R67), entry to IDLE (R50), runs (R53), homing (R48), faults (R59) and stops (R60);
and what a confirmation does to the shown set (R84 to R89). -/

namespace Sys2Proof.Machine

/-! ## Gauge Units (R150 to R159) -/

/-- A Gauge Unit is asked for a measurement (R150). -/
def Gauge.request (m : Measurement) (g : Gauge) : Gauge :=
  { g with
    state := .settling
    measure := some m
    column := some m.slot.column
    inFlight := if g.inFlight = .orphaned then .orphaned else .first }

/-- A Gauge Unit's measurement is abandoned (R159); without one nothing changes. -/
def Gauge.abandon (cause : AbandonCause) (g : Gauge) : Gauge :=
  match g.measure with
  | none => g
  | some m =>
    { g with
      state := .idle
      measure := none
      inFlight := if g.inFlight = .none then .none else .orphaned
      last := some ⟨m.slot, m.purpose, .abandoned cause⟩ }

/-- Change the Gauge Unit of a carousel. -/
def State.modGauge (k : Fin 4) (f : Gauge → Gauge) (s : State) : State :=
  s.modCar k fun c => { c with gauge := f c.gauge }

/-- The height of a code (R152). -/
def heightOf (code span : Nat) : Nat := code * span / 1024

/-- The nearest number of widths to a height (R154). -/
def nearestCount (height width : Nat) : Nat := (height + width / 2) / width

/-- The nominal width of a class (R5). -/
def State.classWidth (s : State) (cls : Nat) : Nat := (s.widths.toList[cls]?).getD 0

/-- The width a slot is gauged with, and its source (R153). -/
def State.gaugeWidth (s : State) (a : SlotAddr) : Nat × WidthSource :=
  match (s.slot a).held with
  | some h => (((s.article? h.article).map (·.width)).getD 0, .article)
  | none => (s.classWidth (s.slotClass a), .cls)

/-- The estimate of a second completion's code for a slot (R152 to R155). A code lies in 0..1023: a level at or above full
scale gives 1023. -/
def State.estimate (s : State) (a : SlotAddr) (code : Nat) : Estimate :=
  let code := min code 1023
  let h := heightOf code s.gaugeSpan
  let w := s.gaugeWidth a
  let e := nearestCount h w.1
  let cap := s.capacity a
  { code := code
    height := h
    span := s.gaugeSpan
    width := w.1
    source := w.2
    capacity := cap
    estimate := min e cap
    overheight := cap < e }

/-! ## Entry to IDLE (R50) -/

/-- A carousel enters IDLE: any staged limits are applied (R50, R52). -/
def State.enterIdle (k : Fin 4) (s : State) : State :=
  let s := s.modCar k fun c => { c with state := .idle }
  match (s.car k).staged with
  | none => s
  | some l => s.applyLimits k l

/-! ## Presentations (R62 to R67) -/

/-- The carrier a carousel presents or fetches. -/
def Carousel.shownCarrier (c : Carousel) : Nat := c.presented.getD 0

/-- A presentation runs to its end: the carousel enters IDLE (R66). -/
def State.endPresentation (k : Fin 4) (s : State) : State :=
  (s.modCar k fun c => { c with phase := .none, presented := none, unverified := [] }).enterIdle k

/-- The next handled slot is verified, or the presentation ends (R66, R158). -/
def State.verifyNext (k : Fin 4) (s : State) : State :=
  match (s.car k).unverified with
  | [] => s.endPresentation k
  | j :: _ =>
    (s.modCar k fun c => { c with phase := .verifying }).modGauge k
      (Gauge.request ⟨⟨k, (s.car k).shownCarrier, j⟩, .verify⟩)

/-- A task becomes SHOWN; a PICK's skip count becomes 0 and it stops starving (R74). -/
def Task.show (t : Task) : Task :=
  if t.isPick then { t with state := .shown, skip := 0, starving := none } else { t with state := .shown }

/-- A task the handling phase of a carrier shows (R64, R74). -/
def State.showable (s : State) (carrier : Nat) (t : Task) : Bool :=
  t.slot.carrier = carrier && s.eligible t

/-- HANDLING begins: every eligible task of the presented carrier becomes SHOWN; with none, the presentation passes
through and ends (R64). -/
def State.startHandling (k : Fin 4) (s : State) : State :=
  let carrier := (s.car k).shownCarrier
  if (s.car k).queue.any (s.showable carrier) then
    s.modCar k fun c =>
      { c with
        phase := .handling
        queue := c.queue.map fun t => if s.showable carrier t then t.show else t }
  else s.endPresentation k

/-- COUNTING goes on from a column (R63): the lowest COUNT_DUE slot from there is measured while counts are permitted,
and otherwise the phase ends. -/
def State.countFrom (k : Fin 4) (j : Nat) (s : State) : State :=
  let carrier := (s.car k).shownCarrier
  match ((s.car k).dueColumns carrier).find? (fun i => j ≤ i) with
  | none => s.startHandling k
  | some i =>
    if s.permitted k carrier then s.modGauge k (Gauge.request ⟨⟨k, carrier, i⟩, .count⟩) else s.startHandling k

/-- A carousel enters PRESENTING with a carrier (R62): the drive is stopped, skip counts rise, the carrier's records are
read, and COUNTING begins. -/
def State.present (k : Fin 4) (carrier : Nat) (s : State) : State :=
  let s := s.modCar k fun c =>
    { c with
      state := .presenting
      target := none
      remaining := 0
      presented := some carrier
      phase := .counting
      supervision := none }
  let s := (s.raiseSkips k carrier).touchAll (s.carrierAddrs k carrier)
  s.countFrom k 0

/-- The shown set of a handling phase, in queue arrival order: SHOWN and WITHDRAWN tasks (R66). -/
def Carousel.shownSet (c : Carousel) : List Task :=
  c.queue.filter fun t => t.state = .shown || t.state = .withdrawn

/-- The owner of a WITHDRAWN task is told that it has gone (R86, R103). A lane is judged at the close (R140). -/
def State.tellGone (t : Task) (s : State) : State :=
  match t.owner with
  | .pick _ _ => s
  | .place p => s.storeTaskGone p

/-- A SHOWN task returns to QUEUED in its place (R87, R88). -/
def State.requeue (k : Fin 4) (id : Nat) (s : State) : State :=
  s.modCar k fun c =>
    { c with queue := c.queue.map fun t => if t.id = id then { t with state := .queued } else t }

/-- The early end of HANDLING (R67, R88): SHOWN tasks return to QUEUED, WITHDRAWN tasks are removed. -/
def State.returnShown (k : Fin 4) (s : State) : State :=
  s.forEach (s.car k).shownSet fun t s =>
    if t.state = .withdrawn then (s.dropTask t.id).tellGone t else s.requeue k t.id

/-- The handled slots not yet verified are set COUNT_DUE (R67, R159). -/
def State.dueUnverified (k : Fin 4) (s : State) : State :=
  s.forEach (s.car k).unverified fun j s => s.setDue ⟨k, (s.car k).shownCarrier, j⟩

/-- A presentation is ended early (R67). -/
def State.endEarly (k : Fin 4) (cause : AbandonCause) (s : State) : State :=
  let s := match (s.car k).phase with
    | .none => s
    | .counting => s.modGauge k (Gauge.abandon cause)
    | .handling => s.returnShown k
    | .verifying => (s.dueUnverified k).modGauge k (Gauge.abandon cause)
  s.modCar k fun c => { c with phase := .none, unverified := [] }

/-! ## Runs, homing, faults and stops (R48, R53, R59, R60) -/

/-- The period of pulse supervision with the creep flag as it stands (R48, R53, R55). -/
def Carousel.period (c : Carousel) : Nat := if c.creep then 4 * c.limits.pulseTimeout else c.limits.pulseTimeout

/-- A running supervision timer is started again at its period (R55). -/
def Supervision.restart (v : Supervision) : Supervision := { v with left := v.period }

/-- Homing begins (R48). -/
def State.startHoming (k : Fin 4) (s : State) : State :=
  let s := s.modCar k fun c =>
    { c with known := false, cause := none, homingCount := 0, direction := .forward }
  (s.decideCreep k).modCar k fun c =>
    { c with state := .homing, supervision := some ⟨c.period, c.period⟩ }

/-- The Drive Controller acts on the choice of a carrier (R53). -/
def State.travelTo (k : Fin 4) (carrier : Nat) (s : State) : State :=
  let way := (s.car k).travel carrier
  if way.1 = 0 then s.present k carrier
  else
    (s.decideCreep k).modCar k fun c =>
      { c with
        state := .moving
        target := some (c.offsetFor carrier)
        remaining := way.1
        direction := way.2
        presented := some carrier
        supervision := some ⟨c.period, c.period⟩ }

/-- An entry to FAULT (R59). -/
def State.enterFault (k : Fin 4) (cause : FaultCause) (s : State) : State :=
  let left := (s.car k).state
  let s := s.endEarly k .drift
  let s := s.modCar k fun c =>
    { c with
      state := .fault
      supervision := none
      target := none
      remaining := 0
      homingCount := 0
      known := false
      cause := some cause }
  let s := s.raise .carouselFault
    ([.u8 k.val, .u8 cause.code, .u8 (s.car k).offset] ++ optU8 (s.car k).presented ++ [.u8 left.code])
  s.modCar k fun c => { c with presented := none }

/-- The emergency stop of one carousel (R60): one that is OFFLINE, in FAULT or STOPPED is left as it is. -/
def State.stopCarousel (k : Fin 4) (s : State) : State :=
  let left := (s.car k).state
  if left = .homing || left = .idle || left = .moving || left = .presenting then
    let s := s.endEarly k .estop
    let s := s.modCar k fun c =>
      { c with state := .stopped, supervision := none, target := none, remaining := 0, homingCount := 0 }
    let s := s.raise .stopped
      ([.u8 k.val, .u8 left.code, .u8 (s.car k).offset] ++ optU8 (s.car k).presented)
    s.modCar k fun c => { c with presented := none }
  else s

/-! ## Confirmations (R84 to R89) -/

/-- The slot change of a confirmed task (R84, R85). -/
def Task.applyTo (t : Task) (r : Slot) : Slot :=
  if t.isPick then { r with count := r.count - t.quantity, resOut := r.resOut - t.quantity }
  else { r with count := r.count + t.quantity, resIn := r.resIn - t.quantity }

/-- DONE applied to one task of the shown set (R84, R85, R86; step 1 of R89). -/
def State.applyDone (t : Task) (s : State) : State :=
  if t.state = .withdrawn then s.dropTask t.id else (s.changeSlot t.slot t.applyTo).dropTask t.id

/-- The owner of a task of the shown set is told of DONE (step 2 of R89). -/
def State.tellDone (t : Task) (s : State) : State :=
  if t.state = .withdrawn then s.tellGone t
  else
    match t.owner with
    | .pick o l => s.pickConfirmed o l t
    | .place p => s.storeConfirmed p t

/-- FAULT applied to one task of the shown set (R86, R87). -/
def State.applyFault (k : Fin 4) (t : Task) (s : State) : State :=
  (if t.state = .withdrawn then s.dropTask t.id else s.requeue k t.id).setDue t.slot

/-- The owner of a task of the shown set is told of FAULT: only a WITHDRAWN task's is (R86, R87). -/
def State.tellFault (t : Task) (s : State) : State := if t.state = .withdrawn then s.tellGone t else s

/-- Steps 1 and 2 of a DONE confirmation (R89). -/
def State.applyAllDone (k : Fin 4) (s : State) : State :=
  let ts := (s.car k).shownSet
  (s.forEach ts State.applyDone).forEach ts State.tellDone

/-- Steps 1 and 2 of a FAULT confirmation (R89). -/
def State.applyAllFault (k : Fin 4) (s : State) : State :=
  let ts := (s.car k).shownSet
  (s.forEach ts (State.applyFault k)).forEach ts State.tellFault

/-- The columns of the handled slots, in ascending order (R158). -/
def Carousel.handledColumns (c : Carousel) : List Nat :=
  (List.range c.geometry.s).filter fun j => c.shownSet.any fun t => t.slot.column = j

/-- The presentation goes on after a confirmation (step 6 of R89): to VERIFYING of these columns when VERIFY is on, or to
its end (R66). -/
def State.afterHandling (k : Fin 4) (handled : List Nat) (s : State) : State :=
  if (s.car k).limits.verify then (s.modCar k fun c => { c with unverified := handled }).verifyNext k
  else s.endPresentation k

/-! ## Completions (R151) -/

/-- The result of a second completion is formed, recorded and applied, and the phase goes on (R152 to R156, R63, R66). -/
def State.finishMeasure (k : Fin 4) (m : Measurement) (code : Nat) (s : State) : State :=
  let s := s.touch m.slot
  let e := s.estimate m.slot code
  let s := s.modGauge k fun g =>
    { g with state := .idle, measure := none, inFlight := .none, last := some ⟨m.slot, m.purpose, .completed e⟩ }
  match m.purpose with
  | .count => (s.countResult m.slot e).countFrom k (m.slot.column + 1)
  | .verify =>
    let s := s.verifyResult m.slot e
    (s.modCar k fun c => { c with unverified := c.unverified.filter (· ≠ m.slot.column) }).verifyNext k

/-- A completion is taken by the conversion it ends (R151). -/
def State.complete (k : Fin 4) (code : Nat) (s : State) : State :=
  let g := (s.car k).gauge
  match g.inFlight with
  | .none => s
  | .orphaned =>
    s.modGauge k fun g => { g with inFlight := if g.state = .settling then .first else .none }
  | .first => s.modGauge k fun g => { g with inFlight := .second, state := .converting }
  | .second =>
    match g.measure with
    | none => s.modGauge k fun g => { g with inFlight := .none, state := .idle }
    | some m => s.finishMeasure k m code

end Sys2Proof.Machine
end

