-- ==== Sys2Proof/Machine/Closing.lean ====
section
/-! DEFINITION. The close of an event: judging lanes (R140), the PENDING retry (R122), the lane arbiter (R135), the audit tests
(R167, R169), the arming marks (R35), the queue fill (R71) and the offers to the selection (R76). `before` is always the
state the event began from: what an event changed decides which of these it calls for (log 12). -/

namespace Sys2Proof.Machine

/-! ## What an event changed -/

/-- The event freed a queue entry or made a task releasable (R71): only these four tables can. -/
def State.fillDue (before s : State) : Bool :=
  before.waiting ≠ s.waiting || before.orders ≠ s.orders || before.stores ≠ s.stores
    || allCarousels.any fun k => (before.car k).queue ≠ (s.car k).queue

/-- The flags of a carousel's slots, in address order (R76). -/
def Carousel.flags (c : Carousel) : List (Bool × Bool × Bool) := c.slots.map fun r => (r.due, r.disputed, r.suspect)

/-- A carousel is offered to the selection (R76): it entered IDLE in the event, or it is IDLE and its queue, a slot flag, a
zone lock, the starving state of a PICK or the permission of counts changed. -/
def State.offerDue (before s : State) (k : Fin 4) : Bool :=
  let b := before.car k
  let c := s.car k
  c.state = .idle &&
    (b.state ≠ .idle || b.queue ≠ c.queue || b.flags ≠ c.flags || b.zones ≠ c.zones || b.hold ≠ c.hold
      || before.listFull ≠ s.listFull)

/-- Offers of one carousel until it is no longer IDLE or no carrier has work. A presentation that finds nothing to do ends
in the event that begins it, so several may follow one another; the first argument bounds them (log 19). -/
def State.offerLoop (k : Fin 4) : Nat → State → State
  | 0, s => s
  | f + 1, s =>
    if (s.car k).state = .idle then
      match s.select k with
      | none => s
      | some carrier => State.offerLoop k f (s.travelTo k carrier)
    else s

/-- The offers at the close of an event (R76), the lowest carousel first (DESIGN CHOICE, log 34). -/
def State.offers (s before : State) : State :=
  s.forEach allCarousels fun k s => if before.offerDue s k then s.offerLoop k 8 else s

/-! ## The steps of the close -/

/-- Lanes, retry and arbiter. -/
def State.closeWork (s : State) (retry : Bool) (before : State) : State :=
  let s := s.judgeLanes before
  let s := if retry then s.retryPending else s
  if before.arbiterDue s then s.arbitrate else s

/-- The queue fill (R71). -/
def State.closeQueues (s before : State) : State := if before.fillDue s then s.fillQueues else s

/-- Offers, the audit tests that presentations begun by them call for, and the offers those tests call for in turn. -/
def State.closeOffers (s : State) : Nat → State → State
  | 0, _ => s
  | f + 1, before =>
    let s' := s.offers before
    State.closeOffers (s'.testAudits s) f s'

/-- The close of an event whose changes are complete: every change first, then the arming marks with those changes in place (R35,
R43), then the fill and the offers (R71, R76, R113, R123 to R125). A carousel whose projected loads change after the marks, by a
record repaired when a presentation reads it, is evaluated at the end of the event (R35; DEDUCED, log 12). -/
def State.close (s : State) (retry : Bool) (before : State) : State :=
  let s := ((s.closeWork retry before).testAudits before).evalMarks before
  ((s.closeQueues before).closeOffers 3 before).evalMarks s

/-- The close of a confirmation (R89): retry, marks and fill come before the presentation goes on. A carousel whose projected
loads change after them is evaluated at the end of the event (R35). -/
def State.closeConfirm (s : State) (retry : Bool) (before : State) (onward : State → State) : State :=
  let s := (s.closeWork retry before).evalMarks before
  (((onward (s.closeQueues before)).testAudits before).closeOffers 3 before).evalMarks s

/-- The close of a resolution (R184): the marks are evaluated first, the offers come before the audit tests, and the tests' own
flag changes are offered after them. A carousel whose projected loads change after the marks is evaluated at the end of the
event (R35). -/
def State.closeResolve (s before : State) : State :=
  let s := s.evalMarks before
  let s1 := s.closeQueues before
  let s2 := s1.offers before
  ((s2.testAudits before).closeOffers 3 s2).evalMarks s

end Sys2Proof.Machine
end

