-- ==== Sys2Proof/Machine/Tables.lean ====
section
/-! DEFINITION. The requests of the Article and Class Tables (chapter 1): DEFINE-CLASS, DEFINE-ARTICLE, DROP-ARTICLE. -/

namespace Sys2Proof.Machine

/-- DEFINE_CLASS (R5). -/
def execDefineClass (tag cls width : Nat) (s : State) : Out :=
  if h : cls < 8 then
    if inRange 105 395 width then
      .next ({ s with widths := s.widths.set cls width }.reply kindDefineClass tag .accepted [.u8 cls, .u16 width])
    else .next (s.reply kindDefineClass tag .badValue [])
  else .next (s.reply kindDefineClass tag .badValue [])

/-- The ranges of an article's fields (R6, R7). -/
def Article.inRanges (x : Article) : Bool :=
  inRange 1 65535 x.code && x.cls ≤ 7 && inRange 105 395 x.width && inRange 30 600 x.mass && inRange 1 520 x.maxAge

/-- The fields of an article in a reply, after its code (R7, R22). -/
def Article.fields (x : Article) : List Field := [.u8 x.cls, .u16 x.width, .u16 x.mass, .u16 x.maxAge]

/-- Some slot holds the article (R8, R9). -/
def State.slotHolds (s : State) (p : Nat) : Bool :=
  allCarousels.any fun k => (s.car k).slots.any fun r => r.held.any (·.article = p)

/-- Some store record names the article (R8, R9). -/
def State.storeNames (s : State) (p : Nat) : Bool := s.stores.toList.any fun x => x.any (·.article = p)

/-- A line of some order record names the article (R9). -/
def State.orderNames (s : State) (p : Nat) : Bool :=
  s.orders.toList.any fun x => x.any fun r => r.lines.any (·.article = p)

/-- A discrepancy entry records the article (R9). -/
def State.entryNames (s : State) (code : Nat) : Bool := s.entries.any fun e => e.stock.any (·.1 = code)

/-- The lowest free article position (R6). -/
def State.freeArticle (s : State) : Option (Fin 256) := (List.finRange 256).find? fun p => (s.articles[p.val]).isNone

/-- The reply of an accepted DEFINE-ARTICLE (R7, R8): the mark is 0 for created and 1 for redefined (DESIGN CHOICE, log 13). -/
def State.replyArticle (tag : Nat) (redefined : Bool) (x : Article) (s : State) : State :=
  s.reply kindDefineArticle tag .accepted ([.u16 x.code, .mark redefined] ++ x.fields)

/-- A redefinition (R8). -/
def State.redefine (tag : Nat) (p : Fin 256) (old new : Article) (s : State) : State :=
  if (old.cls = new.cls ∧ old.width = new.width ∧ old.mass = new.mass) ∨
      ¬(s.slotHolds p.val || s.storeNames p.val) then
    ((s.setArticle p (some new)).close (old.maxAge < new.maxAge) s).replyArticle tag true new
  else s.reply kindDefineArticle tag .inUse []

/-- DEFINE_ARTICLE (R7, R8). -/
def execDefineArticle (tag code cls width mass maxAge : Nat) (s : State) : Out :=
  let new : Article := ⟨code, cls, width, mass, maxAge⟩
  if !new.inRanges then .next (s.reply kindDefineArticle tag .badValue [])
  else
    match s.articleAt code with
    | some p =>
      match s.articles[p.val] with
      | some old => .next (s.redefine tag p old new)
      | none => .next (s.reply kindDefineArticle tag .noRoom [])
    | none =>
      match s.freeArticle with
      | none => .next (s.reply kindDefineArticle tag .noRoom [])
      | some p => .next ((s.setArticle p (some new)).replyArticle tag false new)

/-- DROP_ARTICLE (R9). -/
def execDropArticle (tag code : Nat) (s : State) : Out :=
  match s.articleAt code with
  | none => .next (s.reply kindDropArticle tag .notFound [])
  | some p =>
    if s.slotHolds p.val || s.storeNames p.val || s.orderNames p.val || s.entryNames code then
      .next (s.reply kindDropArticle tag .inUse [])
    else .next ((s.setArticle p none).reply kindDropArticle tag .accepted [])

end Sys2Proof.Machine
end

