-- ==== Sys2Proof/Machine/Slots.lean ====
section
/-! DEFINITION. The requests over slots and zone locks (chapter 1): LOAD-SLOT, READ-SLOT, READ-STOCK, LOCK-ZONE and
CLEAR-ZONE. -/

namespace Sys2Proof.Machine

/-! ## LOAD-SLOT (R20) -/

/-- The article and week a LOAD-SLOT carries: article 0 is absent, and its week is not read (R191). -/
def loadHeld (p : Fin 256) (week : Nat) : Held := ⟨p.val, week⟩

/-- The record a LOAD-SLOT writes (R20): COUNT_DUE and SUSPECT clear, no reservations. -/
def loadedSlot (held : Option Held) (count : Nat) (r : Slot) : Slot :=
  { r with held := held, count := count, resOut := 0, resIn := 0, due := false, suspect := false }

/-- The fields of a record as written (R20), in the order of the table of 1.3. The integrity code, which the table derives from the
other fields and gives no width, is not sent (DESIGN CHOICE, log 13). -/
def State.recordFields (s : State) (a : SlotAddr) : List Field :=
  let r := s.slot a
  [.u16 (s.codeOf r.held)] ++ optU16 (r.held.map (·.week)) ++
    [.u8 r.count, .u8 r.resOut, .u8 r.resIn, .mark r.due, .mark r.disputed, .mark r.suspect]

/-- A LOAD-SLOT that passed checks 1 to 3 (R20, checks 4 and 5, and the write). -/
def State.load (tag : Nat) (a : SlotAddr) (held : Option Held) (count : Nat) (s : State) : State :=
  if (s.car a.carousel).state ≠ .offline then s.reply kindLoadSlot tag .wrongState []
  else if 0 < (s.slot a).resOut ∨ 0 < (s.slot a).resIn ∨ (s.slot a).disputed then s.reply kindLoadSlot tag .inUse []
  else
    let s' := ((s.putSlot a (loadedSlot held count (s.slot a))).unmark a).rebalance a.carousel a.carrier
    let s' := s'.close false s
    s'.reply kindLoadSlot tag .accepted (s'.recordFields a)

/-- LOAD_SLOT (R20). -/
def execLoadSlot (tag carousel carrier column article week count : Nat) (s : State) : Out :=
  match s.slot? carousel carrier column with
  | none => .next (s.reply kindLoadSlot tag .badValue [])
  | some a =>
    if s.capacity a < count ∨ (0 < count ∧ article = 0) ∨ (article ≠ 0 ∧ (count = 0 ∨ !fitsHalf week)) then
      .next (s.reply kindLoadSlot tag .badValue [])
    else if article = 0 then .next (s.load tag a none 0)
    else
      match s.articleAt article with
      | none => .next (s.reply kindLoadSlot tag .notFound [])
      | some p =>
        if ((s.article? p.val).map (·.cls)) ≠ some (s.slotClass a) then .next (s.reply kindLoadSlot tag .badValue [])
        else .next (s.load tag a (some (loadHeld p week)) count)

/-! ## READ-SLOT and READ-STOCK (R21, R22) -/

/-- The zone kinds that cover a slot: none, NO-STORE, NO-HANDLE or both (R21). -/
def State.zoneCode (s : State) (a : SlotAddr) : Nat :=
  match s.noStore a, s.noHandle a with
  | false, false => 0
  | true, false => 1
  | false, true => 2
  | true, true => 3

/-- The fields of a READ-SLOT reply (R21). -/
def State.slotFields (s : State) (a : SlotAddr) : List Field :=
  let r := s.slot a
  addrFields a ++ [.u8 (s.slotClass a), .u8 (s.capacity a), .u16 (s.codeOf r.held)] ++ optU16 (r.held.map (·.week)) ++
    [.u8 r.count, .u8 r.resOut, .u8 r.resIn, .u8 r.available, .u8 (s.room a), .mark r.due, .mark r.disputed,
      .mark r.suspect, .u8 (s.zoneCode a), .mark (s.named a)]

/-- READ_SLOT (R21). -/
def execReadSlot (tag carousel carrier column : Nat) (s : State) : Out :=
  match s.slot? carousel carrier column with
  | none => .next (s.reply kindReadSlot tag .badValue [])
  | some a =>
    let s' := (s.touch a).close false s
    .next (s'.reply kindReadSlot tag .accepted (s'.slotFields a))

/-- The slots that hold an article, in address order (R22). -/
def State.holding (s : State) (p : Nat) : List SlotAddr :=
  s.allAddrs.filter fun a => (s.slot a).held.any fun h : Held => h.article = p

/-- A holding slot's tyres count as blocked (R22). -/
def State.stockBlocked (s : State) (a : SlotAddr) : Bool :=
  (s.slot a).disputed || (s.slot a).suspect || s.noHandle a || !(s.car a.carousel).serviceable

/-- The fields of one slot entry of READ-STOCK (R22). -/
def State.stockEntry (s : State) (a : SlotAddr) : List Field :=
  let r := s.slot a
  addrFields a ++ [.u16 (s.weekOf a), .u8 r.count, .u8 r.resOut, .u8 r.resIn, .mark r.due, .mark r.disputed,
    .mark r.suspect]

/-- The optional slot address of a reply: a mark byte, then the address or zeros (R191). -/
def optAddr (x : Option SlotAddr) : List Field :=
  .mark x.isSome :: addrFields (x.getD ⟨0, 0, 0⟩)

/-- The fields of a READ-STOCK reply (R22): the article, the totals over every holding slot, up to 16 entries from the
start, and the address of the next holding slot when more follow. The totals of tyres take two bytes each (DESIGN CHOICE, log
13). -/
def State.stockFields (s : State) (p : Fin 256) (start : Option SlotAddr) : List Field :=
  let all := s.holding p.val
  let from' := match start with
    | none => all
    | some a => (s.allAddrs.dropWhile (· ≠ a)).filter fun b => (s.slot b).held.any fun h : Held => h.article = p.val
  ((s.article? p.val).map Article.fields).getD [] ++
    [.u16 all.length, .u16 (all.map fun a => (s.slot a).count).sum, .u16 (all.map fun a => (s.slot a).resOut).sum,
      .u16 (all.map fun a => (s.slot a).resIn).sum,
      .u16 ((all.filter s.stockBlocked).map fun a => (s.slot a).available).sum] ++
    listFields ((from'.take 16).map s.stockEntry) ++ optAddr (from'[16]?)

/-- A READ-STOCK that passed its checks (R22). -/
def State.readStock (tag : Nat) (p : Fin 256) (start : Option SlotAddr) (s : State) : State :=
  let s' := (s.touchAll s.allAddrs).close false s
  s'.reply kindReadStock tag .accepted (s'.stockFields p start)

/-- READ_STOCK (R22). -/
def execReadStock (tag code : Nat) (start : Option (Nat × Nat × Nat)) (s : State) : Out :=
  match s.articleAt code with
  | none => .next (s.reply kindReadStock tag .notFound [])
  | some p =>
    match start with
    | none => .next (s.readStock tag p none)
    | some (k, c, j) =>
      match s.slot? k c j with
      | none => .next (s.reply kindReadStock tag .badValue [])
      | some a => .next (s.readStock tag p (some a))

/-! ## Zone locks (R18, R19) -/

/-- The four zone-lock entries, lowest first. -/
def allEntries : List (Fin 4) := [0, 1, 2, 3]

/-- The entry of a carousel that holds a lock already (R18, check 2). -/
def Carousel.zoneAt (c : Carousel) (z : Zone) : Option (Fin 4) := allEntries.find? fun e => c.zones[e.val] = some z

/-- The lowest unused entry (R18, check 4). -/
def Carousel.freeZone (c : Carousel) : Option (Fin 4) := allEntries.find? fun e => (c.zones[e.val]).isNone

/-- Write a zone-lock entry. -/
def Carousel.setZone (c : Carousel) (e : Fin 4) (z : Option Zone) : Carousel := { c with zones := c.zones.set e.val z }

/-- A LOCK-ZONE that passed check 1 (R18). -/
def State.lock (tag : Nat) (k : Fin 4) (z : Zone) (s : State) : State :=
  match (s.car k).zoneAt z with
  | some e => s.reply kindLockZone tag .accepted [.u8 e.val]
  | none =>
    match (s.car k).freeZone with
    | none => s.reply kindLockZone tag .noRoom []
    | some e => ((s.modCar k fun c => c.setZone e (some z)).close false s).reply kindLockZone tag .accepted [.u8 e.val]

/-- LOCK_ZONE (R18). -/
def execLockZone (tag carousel first last kind : Nat) (s : State) : Out :=
  match carousel? carousel, zoneKind? kind with
  | some k, some z =>
    if first < (s.car k).geometry.n ∧ last < (s.car k).geometry.n then .next (s.lock tag k ⟨first, last, z⟩)
    else .next (s.reply kindLockZone tag .badValue [])
  | _, _ => .next (s.reply kindLockZone tag .badValue [])

/-- CLEAR_ZONE (R19). -/
def execClearZone (tag carousel entry : Nat) (s : State) : Out :=
  match carousel? carousel with
  | none => .next (s.reply kindClearZone tag .badValue [])
  | some k =>
    if h : entry < 4 then
      if ((s.car k).zones[entry]).isNone then .next (s.reply kindClearZone tag .notFound [])
      else
        .next (((s.modCar k fun c => c.setZone ⟨entry, h⟩ none).close true s).reply kindClearZone tag .accepted [])
    else .next (s.reply kindClearZone tag .badValue [])

end Sys2Proof.Machine
end

