-- ==== Sys2Proof/Machine/Drive.lean ====
section
/-! DEFINITION. The commands of the Drive Controllers (chapter 3, R40): SET-CAROUSEL, SET-LIMITS, HOME, CLOSE, RESUME,
CONFIRM, and the events at their inputs and timers; with the drive outputs (R45) and the station panel (R65). -/

namespace Sys2Proof.Machine

/-! ## SET-CAROUSEL and SET-LIMITS (R46, R40, R52) -/

/-- A slot that puts its carousel's stock in use (R4). -/
def Slot.inUse (r : Slot) : Bool :=
  r.held.isSome || r.count ≠ 0 || r.resOut ≠ 0 || r.resIn ≠ 0 || r.due || r.disputed || r.suspect

/-- A carousel's stock is in use (R4). -/
def Carousel.inUse (c : Carousel) : Bool := c.slots.any Slot.inUse

/-- A new geometry taken (R4, R24, R46): empty records, no zone locks, loads and peaks 0 with the mark armed, offset 0. -/
def Carousel.rebuild (g : Geometry) (c : Carousel) : Carousel :=
  { c with
    geometry := g
    zones := Vector.replicate 4 none
    offset := 0
    known := false
    slots := List.replicate (g.n * g.s) Slot.empty
    phys := List.replicate g.n 0
    proj := List.replicate g.n 0
    physPeak := 0
    projPeak := 0
    armed := true }

/-- The fields of a geometry as held (R46). -/
def Geometry.fields (g : Geometry) : List Field :=
  [.u8 g.n, .u8 g.s, .u8 g.a] ++ listFields (g.columns.map fun c => [.u8 c.cls, .u8 c.cap])

/-- A SET-CAROUSEL that passed check 1 (R46). -/
def State.setGeometry (tag : Nat) (k : Fin 4) (g : Geometry) (s : State) : State :=
  if (s.car k).state ≠ .offline ∨ (s.car k).audit ≠ .none then s.reply kindSetCarousel tag .wrongState []
  else if (s.car k).inUse then s.reply kindSetCarousel tag .inUse []
  else
    let s' := ((s.modCar k (Carousel.rebuild g)).putCreep k false).close false s
    s'.reply kindSetCarousel tag .accepted (s'.car k).geometry.fields

/-- SET_CAROUSEL (R46). -/
def execSetCarousel (tag carousel n sc a : Nat) (columns : List (Nat × Nat)) (s : State) : Out :=
  match carousel? carousel with
  | none => .next (s.reply kindSetCarousel tag .badValue [])
  | some k =>
    if geometryOk n sc a columns then .next (s.setGeometry tag k (geometryOf n sc a columns))
    else .next (s.reply kindSetCarousel tag .badValue [])

/-- The eight values clamped (R40): BALANCE-LIMIT last, against the DRIVE-LIMIT just clamped. -/
def clampLimits (x : LimitArgs) (mode : StarveMode) (verify : Bool) : Limits :=
  { driveLimit := clamp 100 65000 x.driveLimit
    balanceLimit := clamp 100 (clamp 100 65000 x.driveLimit) x.balanceLimit
    carrierMax := clamp 100 20000 x.carrierMax
    pulseTimeout := clamp 200 10000 x.pulseTimeout
    starveMode := mode
    starveLimit := min 15 x.starveLimit
    holdTimeout := clamp 1000 60000 x.holdTimeout
    verify := verify }

/-- The eight limits in a reply, in the order of R39. -/
def Limits.fields (l : Limits) : List Field :=
  [.u16 l.driveLimit, .u16 l.balanceLimit, .u16 l.carrierMax, .u16 l.pulseTimeout, .u8 l.starveMode.code,
    .u8 l.starveLimit, .u16 l.holdTimeout, .mark l.verify]

/-- The clamp marks of the SET-LIMITS reply (R40): one for each of the eight values, those of STARVE-MODE and VERIFY, which are never
clamped, always 0 (DESIGN CHOICE, log 13). -/
def clampMarks (x : LimitArgs) (l : Limits) : List Field :=
  [.mark (l.driveLimit ≠ x.driveLimit), .mark (l.balanceLimit ≠ x.balanceLimit), .mark (l.carrierMax ≠ x.carrierMax),
    .mark (l.pulseTimeout ≠ x.pulseTimeout), .mark false, .mark (l.starveLimit ≠ x.starveLimit),
    .mark (l.holdTimeout ≠ x.holdTimeout), .mark false]

/-- Limits taken: applied in IDLE and OFFLINE, staged in every other state (R40, R52). -/
def State.takeLimits (k : Fin 4) (l : Limits) (s : State) : State :=
  if (s.car k).state = .idle ∨ (s.car k).state = .offline then s.applyLimits k l
  else s.modCar k fun c => { c with staged := some l }

/-- SET_LIMITS (R40, R52). -/
def execSetLimits (tag carousel : Nat) (x : LimitArgs) (s : State) : Out :=
  match carousel? carousel, starveMode? x.starveMode, mark? x.verify with
  | some k, some m, some v =>
    let l := clampLimits x m v
    let staged := !((s.car k).state = .idle || (s.car k).state = .offline)
    .next (((s.takeLimits k l).close false s).reply kindSetLimits tag .accepted
      (l.fields ++ [.mark staged] ++ clampMarks x l))
  | _, _, _ => .next (s.reply kindSetLimits tag .badValue [])

/-! ## HOME, CLOSE, RESUME (R48, R47, R51) -/

/-- HOME's checks 2 to 4 (R48). -/
def State.homeTaken (s : State) (k : Fin 4) : Bool :=
  (s.car k).configured && !s.estopLevel &&
    ((s.car k).state = .offline || (s.car k).state = .idle || (s.car k).state = .fault)

/-- HOME (R48). -/
def execHome (tag carousel : Nat) (s : State) : Out :=
  match carousel? carousel with
  | none => .next (s.reply kindHome tag .badValue [])
  | some k =>
    if s.homeTaken k then .next (((s.startHoming k).close false s).reply kindHome tag .accepted [])
    else .next (s.reply kindHome tag .wrongState [])

/-- The carousel is idle of work, so that CLOSE is taken (R47). -/
def State.closable (s : State) (k : Fin 4) : Bool :=
  (s.car k).state = .idle && (s.car k).queue.isEmpty && (s.waiting.all fun t => t.slot.carousel ≠ k)
    && ((s.car k).slots.all fun r => !r.due) && (s.car k).audit = .none

/-- CLOSE (R47). -/
def execClose (tag carousel : Nat) (s : State) : Out :=
  match carousel? carousel with
  | none => .next (s.reply kindClose tag .badValue [])
  | some k =>
    if s.closable k then
      .next (((s.modCar k fun c => { c with state := .offline, known := false }).close false s).reply kindClose tag
        .accepted [])
    else .next (s.reply kindClose tag .wrongState [])

/-- RESUME of one carousel (R51): into IDLE from STOPPED with the position known, else into homing. -/
def State.resume (tag : Nat) (k : Fin 4) (s : State) : State :=
  let c := s.car k
  if s.estopLevel || !(c.state = .stopped || c.state = .fault) then s.reply kindResume tag .wrongState []
  else if c.state = .stopped ∧ c.known then
    ((s.enterIdle k).close true s).reply kindResume tag .accepted [.mark false]
  else ((s.startHoming k).close false s).reply kindResume tag .accepted [.mark true]

/-- RESUME (R51). -/
def execResume (tag carousel : Nat) (s : State) : Out :=
  match carousel? carousel with
  | none => .next (s.reply kindResume tag .badValue [])
  | some k => .next (s.resume tag k)

/-! ## Confirmations (R66, R89) -/

/-- The carousel is PRESENTING in phase HANDLING (R66). -/
def Carousel.handling (c : Carousel) : Bool := c.state = .presenting && c.phase = .handling

/-- A DONE confirmation applies at least one PLACE, so PENDING orders are retried (R85, R122). -/
def Carousel.placeShown (c : Carousel) : Bool := c.queue.any fun t => t.state = .shown && !t.isPick

/-- A DONE confirmation (R84 to R86, R89). -/
def State.confirmDone (k : Fin 4) (s : State) : State :=
  (s.applyAllDone k).closeConfirm (s.car k).placeShown s (State.afterHandling k (s.car k).handledColumns)

/-- A FAULT confirmation (R86, R87, R89). -/
def State.confirmFault (k : Fin 4) (s : State) : State :=
  (s.applyAllFault k).closeConfirm false s (State.endPresentation k)

/-- CONFIRM of either outcome (R66). -/
def State.confirm (tag carousel : Nat) (act : Fin 4 → State → State) (s : State) : State :=
  match carousel? carousel with
  | none => s.reply kindConfirm tag .badValue []
  | some k =>
    if (s.car k).handling then
      (act k s).reply kindConfirm tag .accepted [.u8 (s.car k).shownCarrier, .u8 (s.car k).shownSet.length]
    else s.reply kindConfirm tag .wrongState []

/-- CONFIRM_DONE (R66, R84, R85). -/
def execConfirmDone (tag carousel : Nat) (s : State) : Out := .next (s.confirm tag carousel State.confirmDone)

/-- CONFIRM_FAULT (R66, R87). -/
def execConfirmFault (tag carousel : Nat) (s : State) : Out := .next (s.confirm tag carousel State.confirmFault)

/-- DONE_KEY (R66): discarded outside HANDLING. -/
def execDoneKey (k : Fin 4) (s : State) : Out :=
  .next (if (s.car k).handling then s.confirmDone k else s)

/-- FAULT_KEY (R66): discarded outside HANDLING. -/
def execFaultKey (k : Fin 4) (s : State) : Out :=
  .next (if (s.car k).handling then s.confirmFault k else s)

/-! ## PULSE (R49, R54, R57, R58) -/

/-- The offset one pitch on in the held direction (R54, R57, R58). -/
def Carousel.pitched (c : Carousel) : Nat :=
  match c.direction with
  | .forward => (c.offset + 1) % c.geometry.n
  | .reverse => subMod c.geometry.n c.offset 1

/-- The offset moved one pitch in the held direction. -/
def Carousel.pitch (c : Carousel) : Carousel := { c with offset := c.pitched }

/-- The notice POSITION-SLIP (R56, R57): kind 0 HOME, 1 DRIFT; the offset held and the signed slip. -/
def State.raiseSlip (k : Fin 4) (kind held : Nat) (slip : Int) (s : State) : State :=
  s.raise .positionSlip [.u8 k.val, .u8 kind, .u8 held, .mark (slip < 0), .u8 slip.natAbs]

/-- A pulse in HOMING (R49). -/
def State.pulseHoming (k : Fin 4) (s : State) : State :=
  let s := s.modCar k fun c =>
    { c with
      homingCount := c.homingCount + 1
      offset := (c.offset + 1) % c.geometry.n
      supervision := c.supervision.map Supervision.restart }
  if (s.car k).geometry.n + 3 ≤ (s.car k).homingCount then s.enterFault k .homeFail else s

/-- A pulse in MOVING (R54). -/
def State.pulseMoving (k : Fin 4) (s : State) : State :=
  let s := s.modCar k fun c =>
    { c.pitch with remaining := c.remaining - 1, supervision := c.supervision.map Supervision.restart }
  if (s.car k).remaining = 0 then s.present k (s.car k).shownCarrier else s

/-- A pulse in IDLE (R57). -/
def State.pulseIdle (k : Fin 4) (s : State) : State :=
  (s.modCar k Carousel.pitch).raiseSlip k 1 (s.car k).offset 1

/-- PULSE (R49, R54, R57, R58). -/
def execPulse (k : Fin 4) (s : State) : Out :=
  match (s.car k).state with
  | .offline => .next s
  | .fault => .next s
  | .stopped => .next (s.modCar k Carousel.pitch)
  | .idle => .next (s.pulseIdle k)
  | .homing => .next ((s.pulseHoming k).close false s)
  | .moving => .next ((s.pulseMoving k).close false s)
  | .presenting => .next (((s.modCar k Carousel.pitch).enterFault k .drift).close false s)

/-! ## HOME edge (R49, R56, R57, R58) -/

/-- The slip of an offset held at a HOME edge (R56). -/
def slipOf (n held : Nat) : Int := if held ≤ n / 2 then held else (held : Int) - n

/-- The homing completes (R49, R50): its notice, then the entry to IDLE. -/
def State.endHoming (k : Fin 4) (s : State) : State :=
  let count := (s.car k).homingCount
  let s := s.modCar k fun c => { c with offset := 0, known := true, supervision := none }
  (s.raise .homed [.u8 k.val, .u8 count]).enterIdle k

/-- The offset corrected to 0 at a HOME edge, with the notice of the slip (R56, R57). -/
def State.correctHome (k : Fin 4) (s : State) : State :=
  let held := (s.car k).offset
  (s.raiseSlip k 0 held (slipOf (s.car k).geometry.n held)).modCar k fun c => { c with offset := 0 }

/-- The steps that remain to the target from offset 0, in the direction of the run (R56). -/
def Carousel.stepsFromHome (c : Carousel) : Nat :=
  let t := c.target.getD 0
  match c.direction with
  | .forward => subMod c.geometry.n t 0
  | .reverse => subMod c.geometry.n 0 t

/-- A HOME edge in MOVING with the offset not 0 (R56). -/
def State.homeMoving (k : Fin 4) (s : State) : State :=
  let s := (s.correctHome k).modCar k fun c => { c with remaining := c.stepsFromHome }
  if (s.car k).remaining = 0 then s.present k (s.car k).shownCarrier else s

/-- HOME_EDGE (R49, R56 to R58). -/
def execHomeEdge (k : Fin 4) (s : State) : Out :=
  let atZero : Bool := (s.car k).offset = 0
  match (s.car k).state with
  | .offline => .next s
  | .fault => .next s
  | .homing => .next ((s.endHoming k).close true s)
  | .idle => .next (if atZero then s else s.correctHome k)
  | .stopped => .next (if atZero then s else s.correctHome k)
  | .moving => .next (if atZero then s else (s.homeMoving k).close false s)
  | .presenting =>
    .next (if atZero then s
      else ((s.modCar k fun c => { c with offset := 0 }).enterFault k .drift).close false s)

/-! ## Emergency stop (R60, R61) and the supervision timer (R55) -/

/-- ESTOP_ASSERT (R60, R61). The carousels are stopped, and their STOPPED notices queued, the lowest carousel first: R60 gives
no order among them (DESIGN CHOICE, log 34). -/
def execEstopAssert (s : State) : Out :=
  let s' := { s with estop := true }
  .next ((s'.forEach allCarousels State.stopCarousel).close false s)

/-- ESTOP_RELEASE (R61): changes no carousel. -/
def execEstopRelease (s : State) : Out := .next { s with estop := false }

/-- PULSE_TIMER_EXPIRY (R55): time moves to the expiry (log 2). A stopped timer does not expire (log 3). -/
def execPulseTimerExpiry (k : Fin 4) (s : State) : Out :=
  match (s.car k).supervision with
  | none => .next s
  | some v => .next (((s.advance v.left).enterFault k .stall).close false s)

/-! ## Outputs (R45) and the station panel (R65) -/

/-- The drive outputs of a carousel (R45). -/
structure Outputs where
  runFwd   : Bool
  runRev   : Bool
  brakeOff : Bool
  creep    : Bool
  deriving DecidableEq, Repr

/-- The drive outputs as the state drives them (R45). -/
def Carousel.outputs (c : Carousel) : Outputs :=
  match c.state, c.direction with
  | .homing, _ => ⟨true, false, true, c.creep⟩
  | .moving, .forward => ⟨true, false, true, c.creep⟩
  | .moving, .reverse => ⟨false, true, true, c.creep⟩
  | _, _ => ⟨false, false, false, false⟩

/-- A column lamp (R65). -/
inductive Lamp where
  | off
  | steady
  | flashing
  deriving DecidableEq, Repr

/-- What the panel shows of a column: the lamp, and the quantities out and in, none while blank (R65). -/
structure Panel where
  lamp     : Lamp
  quantity : Option (Nat × Nat)
  deriving DecidableEq, Repr

/-- The station panel of a column (R65): dark outside HANDLING. -/
def Carousel.panel (c : Carousel) (column : Nat) : Panel :=
  let all := if c.handling then c.shownSet.filter fun t => t.slot.column = column else []
  let live := all.filter fun t => t.state = .shown
  if all.isEmpty then ⟨.off, none⟩
  else if live.isEmpty then ⟨.flashing, none⟩
  else ⟨.steady, some (quantitySum (live.filter Task.isPick), quantitySum (live.filter fun t => !t.isPick))⟩

end Sys2Proof.Machine
end

