-- ==== Sys2Proof/Machine/Queues.lean ====
section
/-! DEFINITION. The commands of the Task Scheduler, the Balance Unit and the Gauge Units: READ-QUEUE (R73), READ-BALANCE
(R42), READ-GAUGE (R162), the hold timer (R81) and the converter's completion (R151). -/

namespace Sys2Proof.Machine

/-- The fields every queue entry carries (R73): kind, state, slot, quantity, and the owner. -/
def State.taskFields (s : State) (t : Task) : List Field :=
  match t.owner with
  | .pick _ l => [.u8 0, .u8 t.state.code] ++ addrFields t.slot ++ [.u8 t.quantity, .u16 (s.orderCode t), .u8 l]
  | .place p => [.u8 1, .u8 t.state.code] ++ addrFields t.slot ++
      [.u8 t.quantity, .u8 (((s.store? p).map (·.number)).getD 0)]

/-- The skip count and starving time of a PICK (R73). The starving mark doubles as the presence of the time, and the entry of a PLACE
carries none of these fields (DESIGN CHOICE, log 13). -/
def State.skipFields (s : State) (t : Task) : List Field :=
  if t.isPick then .u8 t.skip :: optU24 (t.starving.map fun since => min 60000 (s.schedClock - since)) else []

/-- One item of READ-QUEUE (R73). -/
def State.queueItem (s : State) (t : Task) : List Field :=
  s.taskFields t ++ s.skipFields t ++ [.mark (s.eligible t)]

/-- The fields of a READ-QUEUE reply (R73, R193). -/
def State.queueFields (s : State) (k : Fin 4) (firstItem : Nat) : List Field :=
  let c := s.car k
  [.u8 c.state.code, .u8 c.limits.starveMode.code, .u8 c.limits.threshold, .mark c.hold,
    .u16 (s.releasableFor k).length] ++ pageFields 15 firstItem (c.queue.map s.queueItem)

/-- READ_QUEUE (R73): the slots of the queued tasks are read first, in queue arrival order (DESIGN CHOICE, log 33). The reply
shows the queue and the state after the close of the event, with what a repair in the read brought about (DESIGN CHOICE,
log 28). -/
def execReadQueue (tag carousel firstItem : Nat) (s : State) : Out :=
  match carousel? carousel with
  | none => .next (s.reply kindReadQueue tag .badValue [])
  | some k =>
    let s' := (s.touchAll ((s.car k).queue.map (·.slot))).close false s
    .next (s'.reply kindReadQueue tag .accepted (s'.queueFields k firstItem))

/-- A signed imbalance (R41, R191): a sign byte and the saturated magnitude. -/
def signedFields (x : Int) : List Field := [.mark (x < 0), .u16 (saturate x.natAbs)]

/-- The entries of the LOADS part (R42): L(c) and P(c). -/
def Carousel.loadEntries (c : Carousel) : List (List Field) :=
  (List.range c.geometry.n).map fun i =>
    [.u16 (saturate ((c.phys[i]?).getD 0)), .u16 (saturate ((c.proj[i]?).getD 0))]

/-- The entries of the IMBALANCE part (R42): the physical and the projected I(r) for r below N/2. -/
def Carousel.imbalanceEntries (c : Carousel) : List (List Field) :=
  (List.range (c.geometry.n / 2)).map fun r =>
    signedFields (imbalance c.geometry.n c.phys r) ++ signedFields (imbalance c.geometry.n c.proj r)

/-- The fields of a READ-BALANCE reply (R42). The arming mark is 1 for armed and 0 for disarmed (DESIGN CHOICE, log 13). -/
def Carousel.balanceFields (c : Carousel) (entries : List (List Field)) : List Field :=
  [.u8 c.geometry.n, .u16 c.limits.driveLimit, .u16 c.limits.balanceLimit, .u16 c.limits.carrierMax,
    .mark c.staged.isSome, .u16 (saturate c.physPeak), .u16 (saturate c.projPeak), .mark c.armed, .mark c.creep] ++
    listFields entries

/-- READ_BALANCE (R42): reads no slot record. -/
def execReadBalance (tag carousel part : Nat) (s : State) : Out :=
  match carousel? carousel, part with
  | some k, 0 => .next (s.reply kindReadBalance tag .accepted ((s.car k).balanceFields (s.car k).loadEntries))
  | some k, 1 => .next (s.reply kindReadBalance tag .accepted ((s.car k).balanceFields (s.car k).imbalanceEntries))
  | _, _ => .next (s.reply kindReadBalance tag .badValue [])

/-- The fields of the figures of a completed measurement (R156). The converter code and the height H take two bytes each (DESIGN
CHOICE, log 13). -/
def Estimate.fields (e : Estimate) : List Field :=
  [.u16 e.code, .u16 e.height, .u16 e.span, .u16 e.width, .u8 e.source.code, .u8 e.capacity, .u8 e.estimate,
    .mark e.overheight]

/-- The fields of a last result (R156, R159): outcome 0 COMPLETED with its figures, 1 ABANDONED with its cause. No rule lists the two
outcomes together, so their values are a choice (DESIGN CHOICE, log 13). -/
def GaugeResult.fields (r : GaugeResult) : List Field :=
  .u8 r.slot.carousel.val :: addrFields r.slot ++ .u8 r.purpose.code ::
    match r.outcome with
    | .completed e => .u8 0 :: e.fields
    | .abandoned c => [.u8 1, .u8 c.code]

/-- The fields of a measurement in progress (R162). -/
def Measurement.fields (m : Measurement) : List Field := addrFields m.slot ++ [.u8 m.purpose.code]

/-- An absent measurement at its full width, as 0 (R191). -/
def Measurement.absent : List Field := Measurement.fields ⟨⟨0, 0, 0⟩, .count⟩

/-- An absent last result, as 0, at the full width of a COMPLETED one (R191, log 13). -/
def GaugeResult.absent : List Field :=
  GaugeResult.fields ⟨⟨0, 0, 0⟩, .count, .completed ⟨0, 0, 0, 0, .article, 0, 0, false⟩⟩

/-- The fields of a READ-GAUGE reply (R162). -/
def Gauge.fields (g : Gauge) (span : Nat) : List Field :=
  [.u16 span, .u8 g.state.code, .u8 g.inFlight.code] ++ optGroup Measurement.absent (g.measure.map Measurement.fields) ++
    optU8 g.column ++ optGroup GaugeResult.absent (g.last.map GaugeResult.fields)

/-- READ_GAUGE (R162): reads no slot record. -/
def execReadGauge (tag carousel : Nat) (s : State) : Out :=
  match carousel? carousel with
  | none => .next (s.reply kindReadGauge tag .badValue [])
  | some k => .next (s.reply kindReadGauge tag .accepted ((s.car k).gauge.fields s.gaugeSpan))

/-- HOLD_TIMER_EXPIRY (R81): time moves to the expiry (log 2). A task that does not starve has no timer (log 3). -/
def execHoldTimerExpiry (k : Fin 4) (place : Nat) (s : State) : Out :=
  match (s.car k).queue[place]? with
  | none => .next s
  | some t =>
    match t.starving with
    | none => .next s
    | some since =>
      let dt := since + (s.car k).limits.holdTimeout - s.schedClock
      .next (((s.advance dt).expireHold k t).close false s)

/-- CONVERSION_COMPLETE (R151). -/
def execConversionComplete (k : Fin 4) (code : Nat) (s : State) : Out := .next ((s.complete k code).close false s)

end Sys2Proof.Machine
end

