-- ==== Sys2Proof/Machine/PutAway.lean ====
section
/-! DEFINITION. The requests of the Placement Engine (chapter 5): STORE, DROP-STORE and READ-STORE. -/

namespace Sys2Proof.Machine

/-! ## STORE (R92, R93, R97) -/

/-- Some store record holds a number (R92). -/
def State.storeHeld (s : State) (number : Nat) : Bool := (s.storeAt number).isSome

/-- The number of the next store (R92): counting on from the last given, 255 followed by 1, the first that no record
holds. -/
def State.nextStore (s : State) : Nat :=
  (((List.range 17).map fun i => (s.lastStore + i) % 255 + 1).find? fun n => !s.storeHeld n).getD 0

/-- The lowest free store position (R97). -/
def State.freeStore (s : State) : Option (Fin 16) := (List.finRange 16).find? fun p => (s.store? p).isNone

/-- A work sequence number is given (R70): the counter rises, or its last value is spent. -/
def State.takeSeq (s : State) : State :=
  if s.workSeq < Config.workSeqMax then { s with workSeq := s.workSeq + 1 } else { s with workSeqSpent := true }

/-- The record of a committed store (R97, steps 1 and 2). -/
def State.newStore (s : State) (x : Fin 256) (week quantity : Nat) (target : Option (Fin 4))
    (es : List (SlotAddr × Nat)) : Store :=
  { number := s.nextStore
    seq := s.workSeq
    article := x.val
    week := week
    target := target
    quantity := quantity
    state := .opened
    placements := es.map fun e => ⟨e.1, e.2, 0⟩ }

/-- A placement committed (R97): the record, its number and sequence number, the places and the tasks. -/
def State.commitStore (p : Fin 16) (r : Store) (es : List (SlotAddr × Nat)) (s : State) : State :=
  let s' := (s.setStore p (some r)).takeSeq
  State.commitPlaces p ⟨r.article, r.week⟩ es { s' with lastStore := r.number }

/-- The reply of an accepted STORE (R200). -/
def storeFields (r : Store) : List Field :=
  [.u8 r.number, .u32 r.seq] ++ listFields (r.placements.map fun e => addrFields e.slot ++ [.u8 e.placed])

/-- The placement of a STORE whose checks 1 to 3 passed: what it places (R94). -/
def State.storeJob (s : State) (x : Fin 256) (week : Nat) (target : Option (Fin 4)) : PlaceJob :=
  let art := s.article? x.val
  { article := x.val
    mass := (art.map (·.mass)).getD 0
    cls := (art.map (·.cls)).getD 0
    week := week
    target := target
    excluded := [] }

/-- Check 4 of STORE and the commit (R93, R96, R97). -/
def State.placeStore (tag : Nat) (p : Fin 16) (x : Fin 256) (week quantity : Nat) (target : Option (Fin 4))
    (s : State) : State :=
  let s1 := s.scan
  match s1.placeSteps (s1.storeJob x week target) quantity s1.openTrial with
  | .failed n => (s1.close false s).reply kindStore tag .noPlace [.u8 n]
  | .all slots =>
    let es := tally slots
    let r := s1.newStore x week quantity target es
    ((s1.commitStore p r es).close false s).reply kindStore tag .accepted (storeFields r)

/-- STORE (R93). -/
def execStore (tag code week quantity target : Nat) (s : State) : Out :=
  match target? target with
  | none => .next (s.reply kindStore tag .badValue [])
  | some t =>
    if !inRange 1 16 quantity || !fitsHalf week then .next (s.reply kindStore tag .badValue [])
    else
      match s.articleAt code, s.freeStore with
      | none, _ => .next (s.reply kindStore tag .notFound [])
      | some _, none => .next (s.reply kindStore tag .noRoom [])
      | some x, some p =>
        if s.workSeqSpent then .next (s.reply kindStore tag .noRoom [])
        else .next (s.placeStore tag p x week quantity t)

/-! ## DROP-STORE (R101) -/

/-- The placements of a dropped store (R101, step 4). -/
def droppedPlacements (es : List Placement) : List Placement :=
  (es.map fun e => { e with placed := e.confirmed }).filter fun e => e.placed ≠ 0

/-- The number of tyres whose places a drop gives up (R101). -/
def State.placesHeld (s : State) (p : Fin 16) : Nat := quantitySum ((s.storeTasks p).filter Task.counts)

/-- A DROP-STORE of an OPEN store (R101, steps 1 to 4 and 6). The places of one step are given up in the order in which their
tasks were written (DESIGN CHOICE, log 33). -/
def State.dropStore (p : Fin 16) (r : Store) (s : State) : State :=
  let s' := s.giveUpAll (s.storeTasks p)
  (s'.setStore p (some { r with
    placements := droppedPlacements r.placements, quantity := r.confirmedCount })).finishStore p

/-- DROP_STORE (R101): the mark says 0 freed, 1 CLOSING. -/
def execDropStore (tag number : Nat) (s : State) : Out :=
  if !inRange 1 255 number then .next (s.reply kindDropStore tag .badValue [])
  else
    match s.storeAt number with
    | none => .next (s.reply kindDropStore tag .notFound [])
    | some p =>
      match s.store? p with
      | none => .next (s.reply kindDropStore tag .notFound [])
      | some r =>
        if r.state = .closing then .next (s.reply kindDropStore tag .wrongState [])
        else
          let s' := s.dropStore p r
          .next ((s'.close false s).reply kindDropStore tag .accepted
            [.u8 number, .u8 r.confirmedCount, .u8 (s.placesHeld p), .mark (s'.store? p).isSome])

/-! ## READ-STORE (R107) -/

/-- The store records with their positions, by work sequence number (R107). -/
def State.storesBySeq (s : State) : List Store :=
  (s.stores.toList.filterMap id).insertionSort fun x y => x.seq ≤ y.seq

/-- A target as a field: 4 for ANY (R191). -/
def targetCode (t : Option (Fin 4)) : Nat := (t.map (·.val)).getD 4

/-- The fields of a READ-STORE reply without a number (R107). -/
def State.storeList (s : State) : List Field :=
  [.u8 s.storesBySeq.length, .u8 s.lastStore] ++
    listFields (s.storesBySeq.map fun r => [.u8 r.number, .u8 r.state.code, .u8 r.quantity, .u8 r.confirmedCount])

/-- The fields of a READ-STORE reply with a number (R107, R193). The PLACE tasks are listed in the order in which they were written
(DESIGN CHOICE, log 16). -/
def State.storeDetail (s : State) (p : Fin 16) (r : Store) (firstItem : Nat) : List Field :=
  [.u8 r.number, .u32 r.seq, .u16 (s.codeOf (some ⟨r.article, r.week⟩)), .u16 r.week, .u8 (targetCode r.target),
    .u8 r.state.code, .u8 r.quantity, .u8 r.confirmedCount] ++
    listFields (r.placements.map fun e => addrFields e.slot ++ [.u8 e.placed, .u8 e.confirmed]) ++
    pageFields 16 firstItem
      ((s.storeTasks p).map fun t => addrFields t.slot ++ [.u8 t.quantity, .u8 t.state.code])

/-- READ_STORE (R107). -/
def execReadStore (tag : Nat) (number : Option Nat) (firstItem : Nat) (s : State) : Out :=
  match number with
  | none => .next (s.reply kindReadStore tag .accepted s.storeList)
  | some n =>
    if !inRange 1 255 n then .next (s.reply kindReadStore tag .badValue [])
    else
      match s.storeAt n with
      | none => .next (s.reply kindReadStore tag .notFound [])
      | some p =>
        match s.store? p with
        | none => .next (s.reply kindReadStore tag .notFound [])
        | some r => .next (s.reply kindReadStore tag .accepted (s.storeDetail p r firstItem))

end Sys2Proof.Machine
end

