-- ==== Sys2Proof/Machine/Orders.lean ====
section
/-! DEFINITION. The requests of the Allocation Engine (chapter 6) and the SET-POLICY items of every holder (R111, R146,
R149): ORDER, CANCEL, READ-ORDER, SET-WEEK and SET-POLICY. -/

namespace Sys2Proof.Machine

/-! ## ORDER (R112, R113) -/

/-- A line of an ORDER whose own fields are in range (R112, check 1). -/
def lineOk (x : LineArg) : Bool := inRange 1 16 x.quantity && (mark? x.set).isSome

/-- Check 1 of ORDER (R112). -/
def State.orderOk (s : State) (code priority : Nat) (lines : List LineArg) : Bool :=
  inRange 1 65535 code && priority ≤ 3 && inRange 1 8 lines.length && lines.all lineOk
    && (lines.map (·.quantity)).sum ≤ s.laneCap

/-- The lines of a new order (R113), none when an article code names no article record (R112, check 2). -/
def State.orderLines (s : State) : List LineArg → Option (List Line)
  | [] => some []
  | x :: rest =>
    match s.articleAt x.article, s.orderLines rest with
    | some p, some ls => some (⟨p.val, x.quantity, x.set = 1, 0, none, []⟩ :: ls)
    | _, _ => none

/-- The lowest free order position (R113). -/
def State.freeOrderAt (s : State) : Option (Fin 32) := allOrders.find? fun o => (s.order? o).isNone

/-- An order taken (R113, steps 1 and 2): the record, its sequence number, the scan's reads and the attempt. -/
def State.enterOrder (o : Fin 32) (code priority : Nat) (lines : List Line) (s : State) : State :=
  ((s.setOrder o (some ⟨code, priority, s.workSeq, .pending, none, lines⟩)).takeSeq.scan).attempt o

/-- The fields of an accepted ORDER's reply (R113). -/
def State.orderReply (s : State) (o : Fin 32) (code seq : Nat) (allocated : Bool) : List Field :=
  let st := ((s.order? o).map (·.state)).getD .pending
  let lane := (s.order? o).bind (·.lane)
  [.u16 code, .u32 seq, .u8 (if allocated then 0 else 1), .u8 st.code] ++ optU8 (lane.map (·.val))

/-- ORDER (R112, R113). -/
def execOrder (tag code priority : Nat) (lines : List LineArg) (s : State) : Out :=
  if !s.orderOk code priority lines then .next (s.reply kindOrder tag .badValue [])
  else
    match s.orderLines lines with
    | none => .next (s.reply kindOrder tag .notFound [])
    | some ls =>
      if (s.orderAt code).isSome then .next (s.reply kindOrder tag .inUse [])
      else
        match s.freeOrderAt with
        | none => .next (s.reply kindOrder tag .noRoom [])
        | some o =>
          if s.workSeqSpent then .next (s.reply kindOrder tag .noRoom [])
          else
            let s1 := s.enterOrder o code priority ls
            let s2 := s1.close false s
            .next (s2.reply kindOrder tag .accepted (s2.orderReply o code s.workSeq (s1.orderIs o .allocated)))

/-! ## CANCEL (R124, R125) -/

/-- The tasks of an order that a CANCEL gives up (R124, R125): all that hold a reservation, but for the SHOWN ones under
COMPLETE. -/
def State.cancelled (s : State) (o : Fin 32) : List Task :=
  (s.orderTasks o).filter fun t => t.counts && (t.state ≠ .shown || s.cancelMode = .withdraw)

/-- The SHOWN tasks of an order. -/
def State.shownOf (s : State) (o : Fin 32) : List Task := (s.orderTasks o).filter fun t => t.state = .shown

/-- A CANCEL's release (R125, steps 1 and 2). The PICKs of one step are given up in the order in which their tasks were written
(DESIGN CHOICE, log 33). -/
def State.releaseOrder (o : Fin 32) (s : State) : State := s.giveUpAll (s.cancelled o)

/-- CANCEL of an order that holds no lane (R124): its tasks, all UNRELEASED, are given up and the record is freed. -/
def State.cancelWaiting (o : Fin 32) (s : State) : State := (s.releaseOrder o).setOrder o none

/-- CANCEL of an order that holds a lane (R125, steps 1 to 4). -/
def State.cancelHeld (o : Fin 32) (r : Order) (s : State) : State :=
  let s' := s.releaseOrder o
  if r.dispatchedTotal = 0 ∧ (s'.orderTasks o).isEmpty then s'.freeOrder o
  else (s'.setOrderState o .cancelled).cutLane o false true

/-- CANCEL of an order record (R124, R125). -/
def State.cancelOrder (tag : Nat) (o : Fin 32) (r : Order) (s : State) : State :=
  let released := quantitySum (s.cancelled o)
  let retry := !(s.cancelled o).isEmpty
  match r.state with
  | .complete => s.reply kindCancel tag .wrongState []
  | .pending =>
    ((s.cancelWaiting o).close false s).reply kindCancel tag .accepted
      [.u16 r.code, .u8 r.state.code, .u8 0, .u8 released, .u8 0]
  | .allocated =>
    ((s.cancelWaiting o).close true s).reply kindCancel tag .accepted
      [.u16 r.code, .u8 r.state.code, .u8 0, .u8 released, .u8 0]
  | .picking | .short | .cancelled =>
    let s' := s.cancelHeld o r
    let left := if s.cancelMode = .complete then (s.shownOf o).length else 0
    let withdrawn := if s.cancelMode = .withdraw then (s.shownOf o).length else 0
    (s'.close retry s).reply kindCancel tag .accepted
      [.u16 r.code, .u8 r.state.code, .u8 (if (s'.order? o).isSome then 1 else 0), .u8 released, .u8 left,
        .u8 withdrawn, .u8 r.dispatchedTotal]

/-- CANCEL (R124, R125). -/
def execCancel (tag code : Nat) (s : State) : Out :=
  if !inRange 1 65535 code then .next (s.reply kindCancel tag .badValue [])
  else
    match s.orderAt code with
    | none => .next (s.reply kindCancel tag .notFound [])
    | some o =>
      match s.order? o with
      | none => .next (s.reply kindCancel tag .notFound [])
      | some r => .next (s.cancelOrder tag o r)

/-! ## READ-ORDER (R131) -/

/-- The order records in arrival order (R108). -/
def State.ordersBySeq (s : State) : List Order :=
  (s.orders.toList.filterMap id).insertionSort fun x y => x.seq ≤ y.seq

/-- The fields of an order that every READ-ORDER reply gives (R131). -/
def Order.fields (r : Order) : List Field :=
  [.u16 r.code, .u8 r.priority, .u32 r.seq, .u8 r.state.code] ++ optU8 (r.lane.map (·.val)) ++
    [.u8 r.total, .u8 r.dispatchedTotal]

/-- The fields of a READ-ORDER reply without a code (R131, R193). CANCEL-MODE is one byte, as an enumerated value, beside the two of
SET-SPREAD (DESIGN CHOICE, log 13). -/
def State.orderList (s : State) (firstItem : Nat) : List Field :=
  [.u8 s.ordersBySeq.length, .u16 s.week, .u16 s.setSpread, .u8 s.cancelMode.code] ++
    pageFields 16 firstItem (s.ordersBySeq.map Order.fields)

/-- A pick entry (R109): CONFIRMED, or following its task. -/
structure Pick where
  id       : Nat
  slot     : SlotAddr
  quantity : Nat
  week     : Nat
  state    : Nat
  deriving DecidableEq, Repr

/-- The code of the pick state CONFIRMED, after the four of tasks (R109). -/
def confirmedCode : Nat := 4

/-- The pick entries of a line, in the order in which they were written (R109, log 17). -/
def State.picks (s : State) (o : Fin 32) (l : Nat) (x : Line) : List Pick :=
  ((x.confirmed.map fun e => (⟨e.id, e.slot, e.quantity, e.week, confirmedCode⟩ : Pick)) ++
    (s.tasksWhere (Task.ofLine o l)).map fun t => (⟨t.id, t.slot, t.quantity, t.week, t.state.code⟩ : Pick)).insertionSort
    fun a b => a.id ≤ b.id

/-- The lines of an order with their numbers (R109). -/
def Order.numbered (r : Order) : List (Nat × Line) := r.lines.zipIdx.map fun x => (x.2 + 1, x.1)

/-- A line's reserved quantity (R109). -/
def State.lineReserved (s : State) (o : Fin 32) (l : Nat) : Nat :=
  quantitySum ((s.tasksWhere (Task.ofLine o l)).filter Task.counts)

/-- The fields of a line (R131). -/
def State.lineFields (s : State) (o : Fin 32) (n : Nat) (x : Line) : List Field :=
  [.u8 n, .u16 (s.codeOf (some ⟨x.article, 0⟩)), .u8 x.quantity, .mark x.set, .u8 x.dispatched,
    .u8 (s.lineReserved o n)] ++ optU16 (x.span.map (·.1)) ++ optU16 (x.span.map (·.2))

/-- The fields of a READ-ORDER reply with a code (R131, R193). -/
def State.orderDetail (s : State) (o : Fin 32) (r : Order) (firstItem : Nat) : List Field :=
  r.fields ++ listFields (r.numbered.map fun x => s.lineFields o x.1 x.2) ++
    pageFields 16 firstItem ((r.numbered.flatMap fun x => s.picks o x.1 x.2).map fun e =>
      addrFields e.slot ++ [.u8 e.quantity, .u16 e.week, .u8 e.state])

/-- READ_ORDER (R131). -/
def execReadOrder (tag : Nat) (code : Option Nat) (firstItem : Nat) (s : State) : Out :=
  match code with
  | none => .next (s.reply kindReadOrder tag .accepted (s.orderList firstItem))
  | some c =>
    if !inRange 1 65535 c then .next (s.reply kindReadOrder tag .badValue [])
    else
      match s.orderAt c with
      | none => .next (s.reply kindReadOrder tag .notFound [])
      | some o =>
        match s.order? o with
        | none => .next (s.reply kindReadOrder tag .notFound [])
        | some r => .next (s.reply kindReadOrder tag .accepted (s.orderDetail o r firstItem))

/-! ## SET-WEEK and SET-POLICY (R110, R111, R146, R149) -/

/-- SET_WEEK (R110). -/
def execSetWeek (tag week : Nat) (s : State) : Out :=
  if !fitsHalf week then .next (s.reply kindSetWeek tag .badValue [])
  else
    let held := max s.week week
    .next ({ s with week := held }.reply kindSetWeek tag .accepted [.u16 held, .mark (week < held)])

/-- The fields of an accepted SET-POLICY's reply (R111, R146, R149): item, value now held, clamp mark. -/
def policyFields (item held given : Nat) : List Field := [.u8 item, .u16 held, .mark (held ≠ given)]

/-- The largest difference between two weeks of a list. -/
def weekSpan (ws : List Nat) : Nat :=
  match ws with
  | [] => 0
  | w :: rest => rest.foldl max w - rest.foldl min w

/-- The weeks of a set line's pick entries that count for the span in use (R111, check 3). -/
def State.spanWeeks (s : State) (o : Fin 32) (l : Nat) (x : Line) : List Nat :=
  ((s.picks o l x).filter fun e => e.state ≠ TaskState.withdrawn.code).map (·.week)

/-- The span in use (R111, check 3). -/
def State.spanInUse (s : State) : Nat :=
  (allOrders.flatMap fun o =>
    match s.order? o with
    | none => []
    | some r => (r.numbered.filter fun x => x.2.set).map fun x => weekSpan (s.spanWeeks o x.1 x.2)).foldl max 0

/-- SET_POLICY_SET_SPREAD (R111). -/
def execSetPolicySetSpread (tag value : Nat) (s : State) : Out :=
  let held := min 52 value
  if held < s.spanInUse then .next (s.reply kindSetPolicy tag .inUse [])
  else
    .next (({ s with setSpread := held }.close (s.setSpread < held) s).reply kindSetPolicy tag .accepted
      (policyFields 0 held value))

/-- SET_POLICY_CANCEL_MODE (R111). -/
def execSetPolicyCancelMode (tag value : Nat) (s : State) : Out :=
  match cancelMode? value with
  | none => .next (s.reply kindSetPolicy tag .badValue [])
  | some m => .next ({ s with cancelMode := m }.reply kindSetPolicy tag .accepted (policyFields 1 value value))

/-- Some order record's total quantity exceeds a LANE-CAP (R146). -/
def State.capInUse (s : State) (cap : Nat) : Bool := s.orders.toList.any fun x => x.any fun r => cap < r.total

/-- SET_POLICY_LANE_CAP (R146). -/
def execSetPolicyLaneCap (tag value : Nat) (s : State) : Out :=
  let held := clamp 4 32 value
  if s.capInUse held then .next (s.reply kindSetPolicy tag .inUse [])
  else .next ({ s with laneCap := held }.reply kindSetPolicy tag .accepted (policyFields 2 held value))

/-- SET_POLICY_TRANSIT_TIMEOUT (R146). -/
def execSetPolicyTransitTimeout (tag value : Nat) (s : State) : Out :=
  let held := clamp 1 120 value
  .next ({ s with transitTimeout := held }.reply kindSetPolicy tag .accepted (policyFields 3 held value))

/-- SET_POLICY_GAUGE_SPAN (R149). -/
def execSetPolicyGaugeSpan (tag value : Nat) (s : State) : Out :=
  let held := clamp 500 3000 value
  .next ({ s with gaugeSpan := held }.reply kindSetPolicy tag .accepted (policyFields 4 held value))

end Sys2Proof.Machine
end

