-- ==== Sys2Proof/Machine/Lanes.lean ====
section
/-! DEFINITION. The commands of the Lane Controller (chapter 7): CLEAR-LANE, READ-LANES, the ARRIVE and CLEAR-KEY edges and
the transit timer. -/

namespace Sys2Proof.Machine

/-- The code of the order a lane holds, 0 when it holds none. -/
def State.laneCode (s : State) (l : Fin 8) : Nat := ((((s.lane l).order).bind s.order?).map (·.code)).getD 0

/-- The state of the order a lane holds. -/
def State.laneOrderState (s : State) (l : Fin 8) : Option OrderState := (((s.lane l).order).bind s.order?).map (·.state)

/-- CLEAR_LANE (R143 to R145): mark 0 COLLECTED, 1 OVERFLOW-CLEARED. -/
def execClearLane (tag lane : Nat) (s : State) : Out :=
  match lane? lane with
  | none => .next (s.reply kindClearLane tag .badValue [])
  | some l =>
    let s' := (s.clearLane l).close false s
    match s.clearKind l with
    | .nothing => .next (s.reply kindClearLane tag .wrongState [])
    | .collected code arrived =>
      .next (s'.reply kindClearLane tag .accepted [.u8 l.val, .u8 0, .u16 code, .u8 arrived])
    | .overflow arrived => .next (s'.reply kindClearLane tag .accepted [.u8 l.val, .u8 1, .u16 0, .u8 arrived])

/-- CLEAR_KEY (R143): discarded on a FILLING lane and on a FREE lane without OVERFLOW. -/
def execClearKey (l : Fin 8) (s : State) : Out :=
  match s.clearKind l with
  | .nothing => .next s
  | .collected _ _ => .next ((s.clearLane l).close false s)
  | .overflow _ => .next ((s.clearLane l).close false s)

/-- One entry of READ-LANES (R147). The mark that the transit timer is stopped is the presence mark of the time left, 0 while it
is stopped (DESIGN CHOICE, log 13). -/
def State.laneFields (s : State) (l : Fin 8) : List Field :=
  let x := s.lane l
  [.u8 x.state.code, .u16 (s.laneCode l)] ++ optU8 ((s.laneOrderState l).map OrderState.code) ++
    [.u8 x.expected, .u8 x.dispatched, .u8 x.arrived, .mark x.overflow, .mark x.late, .mark x.short, .mark x.orphan] ++
    optU24 (x.timer.map (· - s.laneClock))

/-- READ_LANES (R147). The eight entries are a list with its count byte (DESIGN CHOICE, log 13). -/
def execReadLanes (tag : Nat) (s : State) : Out :=
  .next (s.reply kindReadLanes tag .accepted
    ([.u16 s.laneCap, .u16 s.transitTimeout, .u8 s.eligibleLanes.length, .u8 s.allocatedOrders.length] ++
      listFields (allLanes.map s.laneFields)))

/-- The notice LANE-OVERFLOW (R141). -/
def State.raiseOverflow (l : Fin 8) (s : State) : State :=
  s.raise .laneOverflow
    [.u8 l.val, .u8 (s.lane l).state.code, .u16 (s.laneCode l), .u8 (s.lane l).dispatched, .u8 (s.lane l).arrived]

/-- A lane's record after an ARRIVE edge (R139). -/
def Lane.arrive (x : Lane) : Lane :=
  if x.arrived + 1 < x.dispatched then { x with arrived := x.arrived + 1 }
  else if x.arrived + 1 = x.dispatched then { x with arrived := x.arrived + 1, timer := none, late := false }
  else { x with arrived := min 63 (x.arrived + 1), overflow := true }

/-- ARRIVE (R139, R141). -/
def execArrive (l : Fin 8) (s : State) : Out :=
  let x := s.lane l
  let s' := s.setLane l x.arrive
  let s' := if x.dispatched ≤ x.arrived ∧ ¬x.overflow then s'.raiseOverflow l else s'
  .next (s'.close false s)

/-- The notice TRANSIT-LATE (R138). It carries the TRANSIT-TIMEOUT held at the expiry, whatever the timer was started with (DESIGN
CHOICE, log 30). -/
def State.raiseLate (l : Fin 8) (s : State) : State :=
  s.raise .transitLate
    [.u8 l.val, .u16 (s.laneCode l), .u8 (s.lane l).dispatched, .u8 (s.lane l).arrived, .u16 s.transitTimeout]

/-- TRANSIT_TIMER_EXPIRY (R138): time moves to the expiry (log 2). A stopped timer does not expire (log 3). -/
def execTransitTimerExpiry (l : Fin 8) (s : State) : Out :=
  match (s.lane l).timer with
  | none => .next s
  | some due =>
    .next (((s.advance (due - s.laneClock)).setLane l { s.lane l with late := true, timer := none }).raiseLate l)

end Sys2Proof.Machine
end

