-- ==== Sys2Proof/Machine/Audits.lean ====
section
/-! DEFINITION. The requests of the Audit Controller (chapter 9): AUDIT of both kinds, STOP-AUDIT, READ-REPORT and
RESOLVE. -/

namespace Sys2Proof.Machine

/-! ## AUDIT and STOP-AUDIT (R164, R165, R169, R170) -/

/-- The range a sweep covers (R164, R165): both carriers, or the whole loop when neither is given; none when one stands
alone. -/
def sweepRange (n : Nat) (first last : Option Nat) : Option (Nat × Nat) :=
  match first, last with
  | none, none => some (0, n - 1)
  | some f, some l => some (f, l)
  | _, _ => none

/-- A range lies within the geometry of a configured carousel (R164, check 1). R2 answers a request that names a carrier of an
unconfigured carousel BAD-VALUE; R164 passes it to check 2, WRONG-STATE, and R164 is followed (DESIGN CHOICE, log 26). -/
def Carousel.rangeFits (c : Carousel) (r : Nat × Nat) : Bool :=
  !c.configured || (r.1 < c.geometry.n && r.2 < c.geometry.n)

/-- A sweep as it starts (R165): at the carrier at the opening, or at the first of the range met from there. -/
def Carousel.newSweep (c : Carousel) (r : Nat × Nat) : Sweep :=
  { first := r.1
    last := r.2
    cursor := meetFrom c.geometry.n r.1 r.2 c.geometry.n c.atOpening
    remaining := rangeSize c.geometry.n r.1 r.2
    marks := [] }

/-- A sweep opened (R164, R165): entries found 0, the cursor carrier set under R166. -/
def State.openSweep (k : Fin 4) (r : Nat × Nat) (s : State) : State :=
  (s.modCar k fun c => { c with found := 0 }).setCursor k ((s.car k).newSweep r)

/-- AUDIT_SWEEP (R164, R165). -/
def execAuditSweep (tag carousel : Nat) (first last : Option Nat) (s : State) : Out :=
  match carousel? carousel with
  | none => .next (s.reply kindAudit tag .badValue [])
  | some k =>
    let c := s.car k
    match sweepRange c.geometry.n first last with
    | none => .next (s.reply kindAudit tag .badValue [])
    | some r =>
      if !c.rangeFits r then .next (s.reply kindAudit tag .badValue [])
      else if !c.configured || c.audit ≠ .none then .next (s.reply kindAudit tag .wrongState [])
      else
        let w := c.newSweep r
        .next (((s.openSweep k r).close false s).reply kindAudit tag .accepted
          [.u8 r.1, .u8 r.2, .u8 w.cursor, .u8 w.remaining])

/-- The slots a SUSPECT audit sets due (R169): SUSPECT, and named by no entry. -/
def State.suspectAddrs (s : State) (k : Fin 4) : List SlotAddr :=
  (s.addrs k).filter fun a => (s.slot a).suspect && !s.named a

/-- A SUSPECT audit opened (R164, R169). -/
def State.openSuspect (k : Fin 4) (s : State) : State :=
  (s.forEach (s.suspectAddrs k) State.setDue).modCar k fun c => { c with audit := .suspect, found := 0 }

/-- AUDIT_SUSPECT (R164, R169): the carousel's slots are read first. -/
def execAuditSuspect (tag carousel : Nat) (first last : Option Nat) (s : State) : Out :=
  match carousel? carousel with
  | none => .next (s.reply kindAudit tag .badValue [])
  | some k =>
    if first.isSome || last.isSome then .next (s.reply kindAudit tag .badValue [])
    else if !(s.car k).configured || (s.car k).audit ≠ .none then .next (s.reply kindAudit tag .wrongState [])
    else
      let s1 := s.touchAll (s.addrs k)
      .next (((s1.openSuspect k).close false s).reply kindAudit tag .accepted [.u16 (s1.suspectAddrs k).length])

/-- The slots that hold a set mark of a carousel's sweep (R163). -/
def State.marked (s : State) (k : Fin 4) : List SlotAddr :=
  match (s.car k).audit with
  | .sweep w => w.marks.map fun j => ⟨k, w.cursor, j⟩
  | .suspect => []
  | .none => []

/-- An audit stopped (R170): its marked slots are read, those that then still hold a mark lose COUNT_DUE, and entries found are
kept. A slot repaired in the read has lost its mark and stays due (R16, R168). -/
def State.stopAudit (k : Fin 4) (s : State) : State :=
  let s := s.touchAll (s.marked k)
  (s.forEach (s.marked k) State.clearDue).modCar k fun c => { c with audit := .none }

/-- The reply fields of a STOP-AUDIT (R170): the cursor carrier and the carriers remaining are optional fields (R191). -/
def Audit.stopFields (found : Nat) : Audit → List Field
  | .none => []
  | .sweep w => [.u8 0, .u16 found] ++ optU8 (some w.cursor) ++ optU8 (some w.remaining)
  | .suspect => [.u8 1, .u16 found] ++ optU8 Option.none ++ optU8 Option.none

/-- STOP_AUDIT (R170). -/
def execStopAudit (tag carousel : Nat) (s : State) : Out :=
  match carousel? carousel with
  | none => .next (s.reply kindStopAudit tag .badValue [])
  | some k =>
    if (s.car k).audit = .none then .next (s.reply kindStopAudit tag .wrongState [])
    else
      .next (((s.stopAudit k).close false s).reply kindStopAudit tag .accepted
        ((s.car k).audit.stopFields (s.car k).found))

/-! ## READ-REPORT (R178, R201) -/

/-- The set marks of a sweep, an optional list (R163, R191): a mark byte, then the list, an empty one where they are absent. R163
calls them a set, and no rule gives the order of the list: the columns stand in ascending order (DESIGN CHOICE, log 13). -/
def markFields (marks : Option (List Nat)) : List Field :=
  optGroup (listFields []) (marks.map fun js => listFields (js.map fun j => [.u8 j]))

/-- The fields of an audit record but entries found (R178): the state, and the kind, and the range, cursor carrier, carriers
remaining and set marks of a sweep, each an optional field (R191). -/
def auditFields (state : Nat) (kind : Option Nat) (w : Option Sweep) : List Field :=
  .u8 state :: optU8 kind ++ rangeFields (w.map fun x => (x.first, x.last)) ++ optU8 (w.map (·.cursor)) ++
    optU8 (w.map (·.remaining)) ++ markFields (w.map (·.marks))

/-- The fields of an audit record (R178): 0 NONE and 1 SWEEPING, 0 SWEEP and 1 SUSPECT. -/
def Audit.fields : Audit → List Field
  | .none => auditFields 0 Option.none Option.none
  | .sweep w => auditFields 1 (some 0) (some w)
  | .suspect => auditFields 1 (some 1) Option.none

/-- The marks byte of an entry (R201): bits 0 and 1 article and week, bit 2 OVERHEIGHT. -/
def Entry.marks (e : Entry) : Nat := (if e.stock.isSome then 3 else 0) + if e.overheight then 4 else 0

/-- The eleven bytes of a discrepancy entry (R201). -/
def Entry.fields (e : Entry) : List Field :=
  addrFields e.slot ++ [.u8 e.origin.code, .u8 e.marks, .u16 ((e.stock.map (·.1)).getD 0),
    .u16 ((e.stock.map (·.2)).getD 0), .u8 e.recorded, .u8 e.measured]

/-- A carousel's entries, in list order (R178). -/
def State.entriesOf (s : State) (k : Fin 4) : List Entry := s.entries.filter fun e => e.slot.carousel = k

/-- READ_REPORT (R178, R193). -/
def execReadReport (tag carousel firstItem : Nat) (s : State) : Out :=
  match carousel? carousel with
  | none => .next (s.reply kindReadReport tag .badValue [])
  | some k =>
    let c := s.car k
    .next (s.reply kindReadReport tag .accepted
      ([.u16 c.generation, .u8 s.entries.length] ++ c.audit.fields ++ [.u16 c.found] ++
        pageFields 20 firstItem ((s.entriesOf k).map Entry.fields)))

/-! ## RESOLVE (R179 to R184) -/

/-- The decisions of a RESOLVE (R179). -/
inductive Decision where
  | accept (stock : Option (Nat × Nat))
  | keep
  | recount
  deriving DecidableEq, Repr

/-- A decision read (R179, check 1): an unknown code, or an article carried by a KEEP or RECOUNT, is none. -/
def decision? (d : DecisionArg) : Option Decision :=
  match d.decision with
  | 0 => if d.article = 0 then some (.accept none)
      else if fitsHalf d.week then some (.accept (some (d.article, d.week))) else none
  | 1 => if d.article = 0 then some .keep else none
  | 2 => if d.article = 0 then some .recount else none
  | _ => none

/-- The decisions with their slots, or none where check 1 of R179 refuses one. -/
def State.decisions? (s : State) (k : Fin 4) : List DecisionArg → Option (List (SlotAddr × Decision))
  | [] => some []
  | d :: rest =>
    match s.slot? k.val d.carrier d.column, decision? d, s.decisions? k rest with
    | some a, some x, some xs => some ((a, x) :: xs)
    | _, _, _ => none

/-- The entry that names a slot (R175). -/
def State.entryAt (s : State) (a : SlotAddr) : Option Entry := s.entries.find? fun e => e.slot = a

/-- The measured count of a slot's entry. -/
def State.measuredAt (s : State) (a : SlotAddr) : Nat := ((s.entryAt a).map (·.measured)).getD 0

/-- Check 4 of R179: an ACCEPT carries an article exactly when the slot holds none and tyres were measured. -/
def State.carriesRightly (s : State) (d : SlotAddr × Decision) : Bool :=
  match d.2 with
  | .accept stock => stock.isSome = ((s.slot d.1).held.isNone && 0 < s.measuredAt d.1)
  | .keep => true
  | .recount => true

/-- Check 5 of R179. -/
def State.articleKnown (s : State) (d : SlotAddr × Decision) : Bool :=
  match d.2 with
  | .accept (some (code, _)) => (s.articleAt code).isSome
  | _ => true

/-- Check 6 of R179. -/
def State.classFits (s : State) (d : SlotAddr × Decision) : Bool :=
  match d.2 with
  | .accept (some (code, _)) =>
    ((s.articleAt code).bind fun p => s.article? p.val).map (·.cls) = some (s.slotClass d.1)
  | _ => true

/-- What a resolution has done so far. -/
structure Tallied where
  state   : State
  removed : Nat
  picks   : Nat
  places  : Nat
  cleared : Bool

/-- The article and week an ACCEPT carries, as held. -/
def State.carried (s : State) (stock : Option (Nat × Nat)) : Option Held :=
  stock.bind fun x => (s.articleAt x.1).map fun p => ⟨p.val, x.2⟩

/-- The first write of an ACCEPT (R180): the article carried, the flags cleared, and the measured count held within the
bounds of R10. -/
def acceptSlot (held : Option Held) (measured cap : Nat) (r : Slot) : Slot :=
  { r with
    held := r.held.orElse fun _ => held
    disputed := false
    suspect := false
    count := if measured < r.resOut then r.resOut else min measured (cap - r.resIn) }

/-- The task of a list whose owner is youngest, the higher line among those of one order (R182, R183). -/
def State.youngestOf (s : State) (ts : List Task) : Option Task :=
  ts.foldl (fun best t =>
    match best with
    | none => some t
    | some b => if lexLe [s.ownerSeq b, b.line] [s.ownerSeq t, t.line] then some t else some b) none

/-- The PICK revocations of an ACCEPT (R182), at most so many; with the number made. -/
def State.revokePicks (acc : Accepting) : Nat → State × Nat → State × Nat
  | 0, x => x
  | f + 1, (s, n) =>
    if acc.measured < (s.slot acc.slot).resOut then
      match s.youngestOf (s.picksOn acc.slot) with
      | none => (s, n)
      | some t => State.revokePicks acc f (s.revokePick acc t, n + 1)
    else (s, n)

/-- The PLACE revocations of an ACCEPT (R183), at most so many; with the number made. -/
def State.revokePlaces (acc : Accepting) : Nat → State × Nat → State × Nat
  | 0, x => x
  | f + 1, (s, n) =>
    if s.capacity acc.slot < acc.measured + (s.slot acc.slot).resIn then
      match s.youngestOf (s.placesOn acc.slot) with
      | none => (s, n)
      | some t => State.revokePlaces acc f (s.revokePlace acc t, n + 1)
    else (s, n)

/-- An ACCEPT (R180, R182, R183). Each revocation lowers a reservation, so the reservations bound their number. -/
def Tallied.accept (a : SlotAddr) (stock : Option (Nat × Nat)) (x : Tallied) : Tallied :=
  let s := x.state
  let m := s.measuredAt a
  let s1 := (s.changeSlot a (acceptSlot (s.carried stock) m (s.capacity a))).removeEntry a
  let acc : Accepting := ⟨a, m⟩
  let p := State.revokePicks acc (s1.slot a).resOut (s1, 0)
  let q := State.revokePlaces acc (p.1.slot a).resIn (p.1, 0)
  { state := q.1
    removed := x.removed + 1
    picks := x.picks + p.2
    places := x.places + q.2
    cleared := x.cleared || (s.slot a).disputed }

/-- A KEEP (R181). -/
def Tallied.keep (a : SlotAddr) (x : Tallied) : Tallied :=
  let s := x.state
  { x with
    state := (s.flagSlot a fun r => { r with disputed := false, suspect := false }).removeEntry a
    removed := x.removed + 1
    cleared := x.cleared || (s.slot a).disputed }

/-- A RECOUNT (R181). -/
def Tallied.recount (a : SlotAddr) (x : Tallied) : Tallied :=
  { x with state := (x.state.removeEntry a).setDue a, removed := x.removed + 1 }

/-- One decision applied. -/
def Tallied.apply (x : Tallied) (d : SlotAddr × Decision) : Tallied :=
  match d.2 with
  | .accept stock => x.accept d.1 stock
  | .keep => x.keep d.1
  | .recount => x.recount d.1

/-- The close of a resolution (R184), with the reply of an accepted RESOLVE. -/
def State.closeTallied (tag : Nat) (k : Fin 4) (before : State) (x : Tallied) : State :=
  let s := x.state.judgeLanes before
  let waiting := s.pendingOrders
  let s := if x.cleared || 0 < x.picks then s.retryPending else s
  let allocated := (waiting.filter fun o => s.orderIs o .allocated).length
  let s := if before.arbiterDue s then s.arbitrate else s
  let s := s.closeResolve before
  s.reply kindResolve tag .accepted
    [.u16 (s.car k).generation, .u8 x.removed, .u8 x.picks, .u8 x.places, .u8 allocated, .u8 s.entries.length]

/-- Checks 4 to 6 of RESOLVE and the decisions, after the records named have been read (R179, R180 to R184). -/
def State.resolveRead (tag : Nat) (k : Fin 4) (ds : List (SlotAddr × Decision)) (s before : State) : State :=
  if !ds.all s.carriesRightly then (s.close false before).reply kindResolve tag .badValue []
  else if !ds.all s.articleKnown then (s.close false before).reply kindResolve tag .notFound []
  else if !ds.all s.classFits then (s.close false before).reply kindResolve tag .badValue []
  else State.closeTallied tag k before (ds.foldl Tallied.apply ⟨s, 0, 0, 0, false⟩)

/-- Checks 2 and 3 of RESOLVE (R179). -/
def State.resolve (tag : Nat) (k : Fin 4) (generation : Nat) (ds : List (SlotAddr × Decision)) (s : State) : State :=
  if generation ≠ (s.car k).generation then s.reply kindResolve tag .stale [.u16 (s.car k).generation]
  else
    match ds.find? fun d => !s.named d.1 with
    | some d => s.reply kindResolve tag .notFound (addrFields d.1)
    | none => State.resolveRead tag k ds (s.touchAll (ds.map (·.1))) s

/-- RESOLVE (R179). -/
def execResolve (tag carousel generation : Nat) (ds : List DecisionArg) (s : State) : Out :=
  match carousel? carousel with
  | none => .next (s.reply kindResolve tag .badValue [])
  | some k =>
    match s.decisions? k ds with
    | none => .next (s.reply kindResolve tag .badValue [])
    | some xs =>
      if inRange 1 16 xs.length && decide (xs.map (·.1)).Nodup then .next (s.resolve tag k generation xs)
      else .next (s.reply kindResolve tag .badValue [])

end Sys2Proof.Machine
end

