-- ==== Sys2Proof/Machine/Frame.lean ====
section
/-! DEFINITION. Frames of the serial line (R186, R187, R191, R198): the check, the bytes of replies and notices, and the bits of
a byte on the line. -/

namespace Sys2Proof.Machine

/-! ## The frame check (R187) -/

/-- One shift of the check register (R187). -/
def checkShift (r : Check) : Check := if r.msb then (r <<< 1) ^^^ 0x1021#16 else r <<< 1

/-- One byte taken into the check register (R187). -/
def checkByte (r : Check) (b : Byte) : Check :=
  (List.range 8).foldl (fun r _ => checkShift r) (r ^^^ (b.setWidth 16 <<< 8))

/-- The check over bytes (R187), from the length byte to the last body byte. -/
def frameCheck (bs : List Byte) : Check := bs.foldl checkByte 0xFFFF#16

/-! ## Bytes of fields, replies and notices (R191, R198) -/

/-- The lowest byte of a number. -/
def low (n : Nat) : Byte := BitVec.ofNat 8 n

/-- The bytes of a field, the high byte first (R191). -/
def Field.bytes : Field → List Byte
  | .u8 n => [low n]
  | .u16 n => [low (n / 256), low n]
  | .u24 n => [low (n / 65536), low (n / 256), low n]
  | .u32 n => [low (n / 16777216), low (n / 65536), low (n / 256), low n]
  | .mark b => [low b.toNat]

/-- The bytes of a list of fields. -/
def fieldBytes (fs : List Field) : List Byte := fs.flatMap Field.bytes

/-- The kind of reply frames (R192). -/
def replyKind : Nat := 0xC0
/-- The kind of notice frames (R195). -/
def noticeKind : Nat := 0xC1
/-- The marker byte (R187). -/
def marker : Byte := 0xA5#8

/-- The body of a reply (R198). -/
def Reply.body (r : Reply) : List Byte := [low r.kind, low r.status.code] ++ fieldBytes r.fields

/-- The body of a notice (R198). -/
def Notice.body (n : Notice) : List Byte :=
  [low n.kind.code, low n.lost] ++ fieldBytes (.u16 n.number :: n.fields)

/-- A frame around its length-counted content (R187, R198). -/
def frameOf (content : List Byte) : List Byte :=
  let counted := low content.length :: content
  let check := (frameCheck counted).toNat
  marker :: counted ++ [low (check / 256), low check]

/-- The bytes the part sends for a frame (R192, R195, R198). -/
def TxFrame.bytes : TxFrame → List Byte
  | .reply r => frameOf (low replyKind :: low r.tag :: r.body)
  | .notice n => frameOf (low noticeKind :: 0#8 :: n.body)

/-! ## Bytes on the line (R186) -/

/-- The level of the line at rest and of a stop bit, as a bit; a start bit is at the other level (DEDUCED, log 32). -/
def stopLevel : Bool := true

/-- A byte as the port sends it (R186): a start bit, the eight data bits with the least significant first, and a stop bit; no
parity bit. -/
def lineBits (b : Byte) : List Bool := (!stopLevel) :: (List.range 8).map b.getLsbD ++ [stopLevel]

/-- The byte of eight data bits, the least significant first. -/
def byteOf (bits : List Bool) : Byte := (BitVec.ofBoolListLE (bits.take 8)).setWidth 8

/-- The ten bit times of a byte as the port receives it (R186): the byte, and whether its stop bit is at the wrong level, which
is the command RECEIVED_BYTE. Bits that do not begin with a start bit are the line at rest. -/
def received? : List Bool → Option Instr
  | start :: bits =>
    if start = stopLevel then none
    else some (.receivedByte (byteOf bits) ((bits[8]?).getD (!stopLevel) ≠ stopLevel))
  | [] => none

/-- The levels of TXD over a frame: its bytes one after another, with no pause between them (R186). -/
def TxFrame.line (f : TxFrame) : List Bool := f.bytes.flatMap lineBits

end Sys2Proof.Machine
end

