-- ==== Sys2Proof/Machine/Link.lean ====
section
/-! DEFINITION. The commands of the Link Controller (chapter 10): bytes and frames received, dispatch, sending, STATUS,
and the three resets (R197 and the reset rules of every chapter). -/

namespace Sys2Proof.Machine

/-! ## STATUS (R196) -/

/-- The fields STATUS gives of a carousel (R196). -/
def Carousel.statusFields (c : Carousel) : List Field :=
  [.u8 c.state.code, .u8 c.phase.code, .u8 c.offset, .mark c.known] ++ optU8 c.presented ++
    [.u16 (saturate c.physPeak), .u16 (saturate c.projPeak), .mark c.creep, .mark c.staged.isSome,
      .u8 c.queue.length, .u16 c.dueCount, .u8 (if c.audit = .none then 0 else 1), .u8 c.gauge.state.code]

/-- The fields STATUS gives of the device (R196). The ESTOP input level is a mark byte, 1 for asserted and 0 for not (DESIGN CHOICE,
log 13). -/
def State.deviceFields (s : State) : List Field :=
  [.mark s.estopLevel, .u16 s.week, .u32 s.workSeq, .u16 s.corrections, .u8 s.entries.length,
    .u8 (s.orders.toList.countP (·.isNone)), .u8 (s.stores.toList.countP (·.isNone)),
    .u8 (s.lanes.toList.countP fun x => x.state = .free), .u8 s.link.rate.code, .u8 s.link.received.length,
    .u16 s.link.discarded, .u16 s.link.refused, .u8 s.link.notices.length, .u16 s.link.lastNumber, .u8 s.link.lost]

/-- The fields of a STATUS reply (R196). -/
def State.statusFields (s : State) : List Field :=
  (allCarousels.flatMap fun k => (s.car k).statusFields) ++ s.deviceFields

/-- STATUS (R196): every slot record is read first. -/
def execStatus (tag : Nat) (s : State) : Out :=
  let s' := (s.touchAll s.allAddrs).close false s
  .next (s'.reply kindStatus tag .accepted s'.statusFields)

/-! ## RESET and its effect (R197) -/

/-- RESET (R197): answered, and nothing else happens in the event. -/
def execReset (tag : Nat) (s : State) : Out := .next (s.reply kindReset tag .accepted [])

/-- A slot record at a RESET request (R23, R11). -/
def resetSlot (r : Slot) : Slot :=
  { (Slot.settled { r with
      resOut := 0, resIn := 0, due := r.due || r.disputed || r.suspect, disputed := false }) with damage := .sound }

/-- A carousel at a RESET request, its presentation ended (R23, R27, R44, R90, R163, R177): geometry, limits, zone locks,
offset, direction, creep flag and Gauge Unit are kept. -/
def Carousel.resetRequest (c : Carousel) : Carousel :=
  { c with
    staged := none
    state := .offline
    known := false
    target := none
    remaining := 0
    presented := none
    phase := .none
    homingCount := 0
    supervision := none
    cause := none
    slots := c.slots.map resetSlot
    proj := c.phys
    projPeak := c.physPeak
    queue := []
    unverified := []
    audit := .none
    found := 0
    generation := 0 }

/-- The link at a RESET request (R188, R189, R194, R195, R197): everything cleared but the rate. -/
def Link.resetRequest (x : Link) : Link := Link.initial x.rate

/-- An ARRIVE or CLEAR-KEY edge that waits to be taken (R133). -/
def isLaneEdge : Instr → Bool
  | .arrive _ => true
  | .clearKey _ => true
  | _ => false

/-- The tables emptied at a RESET request (R90, R107, R132, R133, R175), with the lane edges that wait (R133, log 9). -/
def State.clearTables (s : State) : State :=
  { s with
    waiting := []
    workSeq := 0
    workSeqSpent := false
    stores := Vector.replicate 16 none
    lastStore := 0
    orders := Vector.replicate 32 none
    lanes := Vector.replicate 8 Lane.initial
    entries := []
    pending := s.pending.filter fun c => !isLaneEdge c }

/-- A RESET request takes effect (R197): the slot records are read, measurements are abandoned (R161), the carousels and
tables are reset, the arming marks evaluated (R27), and then the link is cleared with the notices of the event. -/
def State.resetEffect (s : State) : State :=
  let s1 := s.touchAll s.allAddrs
  let s2 := s1.forEach allCarousels fun k s => s.endEarly k .reset
  let s3 := { s2.clearTables with carousels := s2.carousels.map Carousel.resetRequest }
  let s4 := s3.evalMarks s
  { s4 with link := s4.link.resetRequest }

/-- RESET_EFFECT (R197, log 5). -/
def execResetEffect (s : State) : Out := .next s.resetEffect

/-- The state after power-on or the RESET pin (R197): the straps are read (R186); the level of ESTOP and the commands that
wait are the outside's (log 11). -/
def State.restart (strap1 strap0 : Bool) (s : State) : State :=
  { State.reset with
    link := Link.initial (rateOf strap1 strap0)
    estop := s.estop
    idleTicks := s.idleTicks
    pending := s.pending }

/-- POWER_ON (R197). -/
def execPowerOn (strap1 strap0 : Bool) (s : State) : Out := .next (s.restart strap1 strap0)

/-- RESET_PIN (R197): the effect of power-on on the whole part. -/
def execResetPin (strap1 strap0 : Bool) (s : State) : Out := .next (s.restart strap1 strap0)

/-! ## Dispatch (R190) -/

/-- The reply of a dispatched frame, rather than a LINK-FULL reply (R190). -/
def TxFrame.solicited : TxFrame → Bool
  | .reply r => r.solicited
  | .notice _ => false

/-- No reply of a dispatched frame waits or is being sent (R190). -/
def Link.free (x : Link) : Bool := !(x.replies.any (·.solicited)) && !(x.sending.any TxFrame.solicited)

/-- A dispatched request executed under the rule that owns it (R190). An event is no request. -/
def runRequest (i : Instr) (s : State) : Out :=
  match i with
  | .status tag => execStatus tag s
  | .reset tag => execReset tag s
  | .setCarousel tag k n sc a cols => execSetCarousel tag k n sc a cols s
  | .setLimits tag k l => execSetLimits tag k l s
  | .lockZone tag k f l z => execLockZone tag k f l z s
  | .clearZone tag k e => execClearZone tag k e s
  | .home tag k => execHome tag k s
  | .close tag k => execClose tag k s
  | .resume tag k => execResume tag k s
  | .confirmDone tag k => execConfirmDone tag k s
  | .confirmFault tag k => execConfirmFault tag k s
  | .readQueue tag k f => execReadQueue tag k f s
  | .readBalance tag k p => execReadBalance tag k p s
  | .readGauge tag k => execReadGauge tag k s
  | .defineClass tag c w => execDefineClass tag c w s
  | .defineArticle tag code c w m a => execDefineArticle tag code c w m a s
  | .dropArticle tag code => execDropArticle tag code s
  | .loadSlot tag k c j a w n => execLoadSlot tag k c j a w n s
  | .readSlot tag k c j => execReadSlot tag k c j s
  | .readStock tag code st => execReadStock tag code st s
  | .store tag code w q t => execStore tag code w q t s
  | .dropStore tag n => execDropStore tag n s
  | .readStore tag n f => execReadStore tag n f s
  | .order tag code p ls => execOrder tag code p ls s
  | .cancel tag code => execCancel tag code s
  | .readOrder tag code f => execReadOrder tag code f s
  | .setWeek tag w => execSetWeek tag w s
  | .setPolicySetSpread tag v => execSetPolicySetSpread tag v s
  | .setPolicyCancelMode tag v => execSetPolicyCancelMode tag v s
  | .setPolicyLaneCap tag v => execSetPolicyLaneCap tag v s
  | .setPolicyTransitTimeout tag v => execSetPolicyTransitTimeout tag v s
  | .setPolicyGaugeSpan tag v => execSetPolicyGaugeSpan tag v s
  | .clearLane tag l => execClearLane tag l s
  | .readLanes tag => execReadLanes tag s
  | .auditSweep tag k f l => execAuditSweep tag k f l s
  | .auditSuspect tag k f l => execAuditSuspect tag k f l s
  | .stopAudit tag k => execStopAudit tag k s
  | .readReport tag k f => execReadReport tag k f s
  | .resolve tag k g ds => execResolve tag k g ds s
  | .powerOn _ _ => .next s
  | .resetPin _ _ => .next s
  | .frameReceived _ _ => .next s
  | .gapTimeout => .next s
  | .dispatch => .next s
  | .transmitFrame => .next s
  | .frameSent => .next s
  | .resetEffect => .next s
  | .pulse _ => .next s
  | .homeEdge _ => .next s
  | .doneKey _ => .next s
  | .faultKey _ => .next s
  | .estopAssert => .next s
  | .estopRelease => .next s
  | .arrive _ => .next s
  | .clearKey _ => .next s
  | .pulseTimerExpiry _ => .next s
  | .holdTimerExpiry _ _ => .next s
  | .transitTimerExpiry _ => .next s
  | .conversionComplete _ _ => .next s
  | .receivedByte _ _ => .next s

/-- A dispatched frame, out of the queue (R190): BAD-FORM, the BAD-VALUE of an enumerated byte that names no request
(log 23), or the request. -/
def dispatchFrame (f : RxFrame) (s : State) : Out :=
  match decodeRequest f.kind f.tag f.body with
  | .badForm => .next (s.reply f.kind f.tag .badForm [])
  | .badValue => .next (s.reply f.kind f.tag .badValue [])
  | .request i => runRequest i s

/-- The head of the receive queue is dispatched, if a frame waits there and none is in hand (R190). -/
def dispatchHead (s : State) : Out :=
  match s.link.received with
  | [] => .next s
  | f :: rest =>
    if s.link.free then dispatchFrame f { s with link := { s.link with received := rest } } else .next s

/-- DISPATCH (R190). Dispatch falls within the events that complete a frame or a reply, so this finds work only in a state
they do not leave (log 3). -/
def execDispatch (s : State) : Out := dispatchHead s

/-! ## Receiving (R188, R189) -/

/-- The frame being received is discarded (R188). -/
def State.discardFrame (s : State) : State :=
  { s with link := { s.link with
      receiver := .hunt, gap := 0, discarded := min 65535 (s.link.discarded + 1) } }

/-- The number of LINK-FULL replies in the reply path (R189). -/
def Link.linkFulls (x : Link) : Nat := x.replies.countP fun r => !r.solicited

/-- A frame refused (R189). -/
def State.refuseFrame (kind tag : Nat) (s : State) : State :=
  let x := s.link
  { s with link := { x with
      refused := min 65535 (x.refused + 1)
      replies := if x.linkFulls < Config.linkFullDepth
        then x.replies ++ [⟨kind, tag, .linkFull, [], false⟩] else x.replies } }

/-- A well-formed frame is handled (R189, R190): it joins the queue and, arriving at an empty one, is dispatched unless a
reply is in hand; or it is refused. -/
def acceptFrame (f : RxFrame) (s : State) : Out :=
  if s.link.received.length < Config.receiveDepth then
    let s' := { s with link := { s.link with received := s.link.received ++ [f] } }
    if s.link.received.isEmpty then dispatchHead s' else .next s'
  else .next (s.refuseFrame f.kind f.tag)

/-- A completed frame: its check decides (R188). The receiver is again in HUNT. -/
def completeFrame (content : List Byte) (check : Check) (s : State) : Out :=
  let s' := { s with link := { s.link with receiver := .hunt, gap := 0 } }
  match content with
  | kind :: tag :: body =>
    if frameCheck (low content.length :: content) = check then acceptFrame ⟨kind.toNat, tag.toNat, body⟩ s'
    else .next s.discardFrame
  | _ => .next s.discardFrame

/-- FRAME_RECEIVED (R189): the bytes of one frame and its check, whatever the receiver held before (log 21). A content of
a length no length byte gives is discarded (R188). -/
def execFrameReceived (content : List Byte) (check : Check) (s : State) : Out :=
  if 2 ≤ content.length ∧ content.length ≤ 250 then completeFrame content check s else .next s.discardFrame

/-- The receiver moved on by a byte (R188), with the gap timer run afresh. -/
def State.receiving (r : Receiver) (s : State) : State := { s with link := { s.link with receiver := r, gap := 0 } }

/-- A byte without framing error taken by the receiver (R188). -/
def takeByte (b : Byte) (s : State) : Out :=
  match s.link.receiver with
  | .hunt => .next (if b = marker then s.receiving .length else s)
  | .length =>
    .next (if 2 ≤ b.toNat ∧ b.toNat ≤ 250 then s.receiving (.content b.toNat []) else s.discardFrame)
  | .content len taken =>
    let taken := taken ++ [b]
    .next (s.receiving (if len ≤ taken.length then .check len taken none else .content len taken))
  | .check len taken none => .next (s.receiving (.check len taken (some b)))
  | .check _ taken (some high) => completeFrame taken (high ++ b) s

/-- The gap a frame may have between two bytes (R188). -/
def maxGap : Nat := 20

/-- RECEIVED_BYTE (R186, R188). A byte that comes after the gap timer's time finds the frame discarded. -/
def execReceivedByte (b : Byte) (framingError : Bool) (s : State) : Out :=
  let late : Bool := s.link.receiver ≠ .hunt && maxGap < s.link.gap
  let s' := if late then s.discardFrame else s
  if framingError then .next (if s'.link.receiver = .hunt then s' else s'.discardFrame) else takeByte b s'

/-- GAP_TIMEOUT (R188): time moves to the expiry (log 2); in HUNT no timer runs (log 3). -/
def execGapTimeout (s : State) : Out :=
  .next (if s.link.receiver = .hunt then s else (s.advance (maxGap + 1 - s.link.gap)).discardFrame)

/-! ## Sending (R194) -/

/-- The source the transmitter serves next (R194): the only one that holds a frame, or the one not served last. -/
def Link.nextSource (x : Link) : Option Source :=
  match x.replies, x.notices with
  | [], [] => none
  | _ :: _, [] => some .reply
  | [], _ :: _ => some .notice
  | _ :: _, _ :: _ => some (if x.lastSource = .notice then .reply else .notice)

/-- The oldest frame of a source begins to be sent and leaves its queue (R194). -/
def Link.begin (x : Link) (src : Source) : Link :=
  match src, x.replies, x.notices with
  | .reply, r :: rest, _ => { x with replies := rest, sending := some (.reply r), lastSource := .reply }
  | .notice, _, n :: rest => { x with notices := rest, sending := some (.notice n), lastSource := .notice }
  | _, _, _ => x

/-- The free transmitter begins a frame, if one waits (R194). -/
def Link.startNext (x : Link) : Link :=
  match x.nextSource with
  | none => x
  | some src => x.begin src

/-- TRANSMIT_FRAME (R194): a busy transmitter, or one without a frame to send, is left as it is (log 6). -/
def execTransmitFrame (s : State) : Out :=
  match s.link.sending with
  | none => .next { s with link := s.link.startNext }
  | some _ => .next s

/-- FRAME_SENT (R190, R194, R197): the last byte of a frame is sent. The reply of a RESET brings its effect. Else the free
transmitter begins the next frame that waits, and the reply of a dispatched frame lets the next be dispatched: in this order,
since the STATUS of the example of 10.8 counts the notices without the one that then begins (log 6). -/
def execFrameSent (s : State) : Out :=
  let s' := { s with link := { s.link with sending := none } }
  let next := { s' with link := s'.link.startNext }
  match s.link.sending with
  | none => .next s
  | some (.notice _) => .next next
  | some (.reply r) =>
    if !r.solicited then .next next
    else if r.kind = kindReset ∧ r.status = .accepted then .next s'.resetEffect
    else dispatchHead next

end Sys2Proof.Machine
end

