-- ==== Sys2Proof/Machine/Dispatch.lean ====
section
/-! DEFINITION. One arm per command: each calls the meaning of its row of spec/opcode_table.json. -/

namespace Sys2Proof.Machine

def exec (i : Instr) (s : State) : Host.Outcome State Fault Refusal :=
  match i with
  | .powerOn strap1 strap0 => Sys2Proof.Machine.execPowerOn strap1 strap0 s
  | .resetPin strap1 strap0 => Sys2Proof.Machine.execResetPin strap1 strap0 s
  | .frameReceived content check => Sys2Proof.Machine.execFrameReceived content check s
  | .gapTimeout => Sys2Proof.Machine.execGapTimeout s
  | .dispatch => Sys2Proof.Machine.execDispatch s
  | .transmitFrame => Sys2Proof.Machine.execTransmitFrame s
  | .frameSent => Sys2Proof.Machine.execFrameSent s
  | .status tag => Sys2Proof.Machine.execStatus tag s
  | .reset tag => Sys2Proof.Machine.execReset tag s
  | .resetEffect => Sys2Proof.Machine.execResetEffect s
  | .setCarousel tag carousel n columnCount a columns => Sys2Proof.Machine.execSetCarousel tag carousel n columnCount a columns s
  | .setLimits tag carousel limits => Sys2Proof.Machine.execSetLimits tag carousel limits s
  | .lockZone tag carousel first last kind => Sys2Proof.Machine.execLockZone tag carousel first last kind s
  | .clearZone tag carousel entry => Sys2Proof.Machine.execClearZone tag carousel entry s
  | .home tag carousel => Sys2Proof.Machine.execHome tag carousel s
  | .close tag carousel => Sys2Proof.Machine.execClose tag carousel s
  | .resume tag carousel => Sys2Proof.Machine.execResume tag carousel s
  | .confirmDone tag carousel => Sys2Proof.Machine.execConfirmDone tag carousel s
  | .confirmFault tag carousel => Sys2Proof.Machine.execConfirmFault tag carousel s
  | .readQueue tag carousel firstItem => Sys2Proof.Machine.execReadQueue tag carousel firstItem s
  | .readBalance tag carousel part => Sys2Proof.Machine.execReadBalance tag carousel part s
  | .readGauge tag carousel => Sys2Proof.Machine.execReadGauge tag carousel s
  | .defineClass tag cls width => Sys2Proof.Machine.execDefineClass tag cls width s
  | .defineArticle tag code cls width mass maxAge => Sys2Proof.Machine.execDefineArticle tag code cls width mass maxAge s
  | .dropArticle tag code => Sys2Proof.Machine.execDropArticle tag code s
  | .loadSlot tag carousel carrier column article week count => Sys2Proof.Machine.execLoadSlot tag carousel carrier column article week count s
  | .readSlot tag carousel carrier column => Sys2Proof.Machine.execReadSlot tag carousel carrier column s
  | .readStock tag code start => Sys2Proof.Machine.execReadStock tag code start s
  | .store tag code week quantity target => Sys2Proof.Machine.execStore tag code week quantity target s
  | .dropStore tag number => Sys2Proof.Machine.execDropStore tag number s
  | .readStore tag number firstItem => Sys2Proof.Machine.execReadStore tag number firstItem s
  | .order tag code priority lines => Sys2Proof.Machine.execOrder tag code priority lines s
  | .cancel tag code => Sys2Proof.Machine.execCancel tag code s
  | .readOrder tag code firstItem => Sys2Proof.Machine.execReadOrder tag code firstItem s
  | .setWeek tag week => Sys2Proof.Machine.execSetWeek tag week s
  | .setPolicySetSpread tag value => Sys2Proof.Machine.execSetPolicySetSpread tag value s
  | .setPolicyCancelMode tag value => Sys2Proof.Machine.execSetPolicyCancelMode tag value s
  | .setPolicyLaneCap tag value => Sys2Proof.Machine.execSetPolicyLaneCap tag value s
  | .setPolicyTransitTimeout tag value => Sys2Proof.Machine.execSetPolicyTransitTimeout tag value s
  | .setPolicyGaugeSpan tag value => Sys2Proof.Machine.execSetPolicyGaugeSpan tag value s
  | .clearLane tag lane => Sys2Proof.Machine.execClearLane tag lane s
  | .readLanes tag => Sys2Proof.Machine.execReadLanes tag s
  | .auditSweep tag carousel first last => Sys2Proof.Machine.execAuditSweep tag carousel first last s
  | .auditSuspect tag carousel first last => Sys2Proof.Machine.execAuditSuspect tag carousel first last s
  | .stopAudit tag carousel => Sys2Proof.Machine.execStopAudit tag carousel s
  | .readReport tag carousel firstItem => Sys2Proof.Machine.execReadReport tag carousel firstItem s
  | .resolve tag carousel generation decisions => Sys2Proof.Machine.execResolve tag carousel generation decisions s
  | .pulse carousel => Sys2Proof.Machine.execPulse carousel s
  | .homeEdge carousel => Sys2Proof.Machine.execHomeEdge carousel s
  | .doneKey carousel => Sys2Proof.Machine.execDoneKey carousel s
  | .faultKey carousel => Sys2Proof.Machine.execFaultKey carousel s
  | .estopAssert => Sys2Proof.Machine.execEstopAssert s
  | .estopRelease => Sys2Proof.Machine.execEstopRelease s
  | .arrive lane => Sys2Proof.Machine.execArrive lane s
  | .clearKey lane => Sys2Proof.Machine.execClearKey lane s
  | .pulseTimerExpiry carousel => Sys2Proof.Machine.execPulseTimerExpiry carousel s
  | .holdTimerExpiry carousel place => Sys2Proof.Machine.execHoldTimerExpiry carousel place s
  | .transitTimerExpiry lane => Sys2Proof.Machine.execTransitTimerExpiry lane s
  | .conversionComplete carousel code => Sys2Proof.Machine.execConversionComplete carousel code s
  | .receivedByte byte framingError => Sys2Proof.Machine.execReceivedByte byte framingError s

end Sys2Proof.Machine
end

