-- ==== Sys2Proof/Safety.lean ====
section
/-! DEFINITION. The terms that statements are made in: sound, calm, bounded and coherent states, and what an operation may
leave of a state. -/

namespace Sys2Proof.Machine

/-! ## Positions of a table -/

/-- The lowest position of a table at which something stands. -/
def Lowest {n : Nat} (p : Fin n → Prop) (e : Fin n) : Prop := p e ∧ ∀ f, f < e → ¬p f

/-! ## Sound slot memory (section 1.4) -/

/-- No slot record and its integrity code stand in disagreement, so that no read meets an integrity fault (R15, R16). -/
def State.Sound (s : State) : Prop := ∀ k, ∀ r ∈ (s.car k).slots, r.damage = .sound

/-! ## Events that call for nothing at their close -/

/-- What one carousel holds that the close of an event looks at (R35, R71, R76, R167, R169) stands as it stood: its queue,
slot flags, zone locks, hold and projected loads; no audit was opened, and the carousel did not enter IDLE. -/
structure Carousel.Calm (before c : Carousel) : Prop where
  queue : c.queue = before.queue
  flags : c.flags = before.flags
  zones : c.zones = before.zones
  hold  : c.hold = before.hold
  audit : before.audit = .none → c.audit = .none
  proj  : c.proj = before.proj
  idle  : c.state = .idle → before.state = .idle

/-- An event that changed nothing that the close of an event looks at. -/
structure State.Calm (before s : State) : Prop where
  lanes   : s.lanes = before.lanes
  orders  : s.orders = before.orders
  stores  : s.stores = before.stores
  waiting : s.waiting = before.waiting
  entries : s.entries = before.entries
  cars    : ∀ k, (before.car k).Calm (s.car k)

/-! ## What the work of the store leaves of a state -/

/-- What the store's work keeps of a carousel: its geometry, zone locks and the sizes of its tables; limits change only to
the staged ones (R50), and the queue and the audit's counts grow no further than their depths (R71, R163, R177). -/
structure Carousel.Kept (c c' : Carousel) : Prop where
  geometry   : c'.geometry = c.geometry
  zones      : c'.zones = c.zones
  slotCount  : c'.slots.length = c.slots.length
  physCount  : c'.phys.length = c.phys.length
  projCount  : c'.proj.length = c.proj.length
  limits     : c'.limits = c.limits ∨ c.staged = some c'.limits
  staged     : c'.staged = c.staged ∨ c'.staged = none
  queue      : c'.queue.length ≤ max c.queue.length Config.queueDepth
  found      : c'.found ≤ max c.found 65535
  generation : c'.generation ≤ max c.generation 65535

/-- What the store's work keeps of the state: every setting, both clocks, the ESTOP level, the waiting commands and the
receiving and sending sides of the link; and notices, entries and counts grow no further than their depths (R15, R175,
R195). -/
structure State.Kept (s t : State) : Prop where
  widths         : t.widths = s.widths
  articles       : t.articles = s.articles
  schedClock     : t.schedClock = s.schedClock
  week           : t.week = s.week
  setSpread      : t.setSpread = s.setSpread
  cancelMode     : t.cancelMode = s.cancelMode
  laneCap        : t.laneCap = s.laneCap
  transitTimeout : t.transitTimeout = s.transitTimeout
  laneClock      : t.laneClock = s.laneClock
  gaugeSpan      : t.gaugeSpan = s.gaugeSpan
  estop          : t.estop = s.estop
  idleTicks      : t.idleTicks = s.idleTicks
  pending        : t.pending = s.pending
  rate           : t.link.rate = s.link.rate
  receiver       : t.link.receiver = s.link.receiver
  gap            : t.link.gap = s.link.gap
  received       : t.link.received = s.link.received
  replies        : t.link.replies = s.link.replies
  discarded      : t.link.discarded = s.link.discarded
  refused        : t.link.refused = s.link.refused
  sending        : t.link.sending = s.link.sending
  lastSource     : t.link.lastSource = s.link.lastSource
  notices        : t.link.notices.length ≤ max s.link.notices.length Config.noticeDepth
  lost           : t.link.lost ≤ max s.link.lost 255
  lastNumber     : t.link.lastNumber ≤ max s.link.lastNumber 65535
  corrections    : t.corrections ≤ max s.corrections 65535
  workSeq        : t.workSeq = s.workSeq
  workSeqSpent   : t.workSeqSpent = s.workSeqSpent
  lastStore      : t.lastStore = s.lastStore
  entries        : t.entries.length ≤ max s.entries.length Config.listDepth
  oneEach        : (s.entries.map (·.slot)).Nodup → (t.entries.map (·.slot)).Nodup
  cars           : ∀ k, (s.car k).Kept (t.car k)

/-! ## What the close of an event leaves of a state -/

/-- A sweep is open on the carousel (R163). -/
def Carousel.sweeping (c : Carousel) : Bool :=
  match c.audit with
  | .sweep _ => true
  | .suspect => false
  | .none => false

/-- What may become of a sound slot record: its count, reserved-in, DISPUTED and SUSPECT stay, COUNT_DUE is set only while a
sweep is open (R166) and never cleared, reserved-out only rises, and an article is only lost with count 0 and reserved-in
0 (R11). -/
structure Slot.Onward (sweeping : Bool) (r r' : Slot) : Prop where
  damage   : r'.damage = .sound
  count    : r'.count = r.count
  resIn    : r'.resIn = r.resIn
  disputed : r'.disputed = r.disputed
  suspect  : r'.suspect = r.suspect
  due      : r'.due = r.due ∨ (sweeping = true ∧ r'.due = true)
  resOut   : r.resOut ≤ r'.resOut
  held     : r'.held = r.held ∨ (r.count = 0 ∧ r.resIn = 0 ∧ r'.held = none)

/-- What may become of a carousel's records: their number stays, and the sound ones go on as `Slot.Onward` says. -/
structure SlotsOnward (sweeping : Bool) (l l' : List Slot) : Prop where
  length : l'.length = l.length
  sound  : ∀ (i : Nat) (r : Slot), l[i]? = some r → r.damage = .sound →
    ∃ r' : Slot, l'[i]? = some r' ∧ Slot.Onward sweeping r r'

/-- What the close of an event leaves of a carousel. -/
structure Carousel.Onward (c c' : Carousel) : Prop extends c.Kept c' where
  offset      : c'.offset = c.offset
  known       : c'.known = c.known
  homingCount : c'.homingCount = c.homingCount
  cause       : c'.cause = c.cause
  sameReport  : c'.generation = c.generation
  sameFound   : c'.found = c.found
  last        : c'.gauge.last = c.gauge.last
  sweepless   : c.sweeping = false → c'.sweeping = false
  slots       : SlotsOnward c.sweeping c.slots c'.slots

/-- The drive, the presentation, the limits and the Gauge Unit stay, and the queue is only added to at its tail. -/
structure Carousel.Still (c c' : Carousel) : Prop where
  state       : c'.state = c.state
  direction   : c'.direction = c.direction
  target      : c'.target = c.target
  remaining   : c'.remaining = c.remaining
  presented   : c'.presented = c.presented
  phase       : c'.phase = c.phase
  supervision : c'.supervision = c.supervision
  creep       : c'.creep = c.creep
  limits      : c'.limits = c.limits
  staged      : c'.staged = c.staged
  gauge       : c'.gauge = c.gauge
  unverified  : c'.unverified = c.unverified
  queue       : c.queue <+: c'.queue

/-- What the close of an event leaves of the state. -/
structure State.Onward (s t : State) : Prop extends s.Kept t where
  stores  : t.stores = s.stores
  list    : t.entries = s.entries
  raised  : s.link.notices <+: t.link.notices
  freed   : ∀ o, s.order? o = none → t.order? o = none
  drives  : ∀ k, (s.car k).Onward (t.car k)

/-- The close of an event besides leaves the drive of every carousel that is not IDLE as it is: offers go only to IDLE
carousels (R76). -/
structure State.Closed (s t : State) : Prop extends s.Onward t where
  still : ∀ k, (s.car k).state ≠ .idle → (s.car k).Still (t.car k)

/-! ## Invariants -/

/-- Within the depths and ranges the part gives its counts and queues (R15, R44, R68, R70, R71, R92, R163, R175, R177, R188,
R189, R195). -/
structure State.Bounded (s : State) : Prop where
  received    : s.link.received.length ≤ 4
  linkFulls   : s.link.linkFulls ≤ 4
  notices     : s.link.notices.length ≤ 48
  lost        : s.link.lost ≤ 255
  lastNumber  : s.link.lastNumber ≤ 65535
  discarded   : s.link.discarded ≤ 65535
  refused     : s.link.refused ≤ 65535
  corrections : s.corrections ≤ 65535
  workSeq     : s.workSeq ≤ 4294967295
  lastStore   : s.lastStore ≤ 255
  entries     : s.entries.length ≤ 64
  oneEach     : (s.entries.map (·.slot)).Nodup
  queues      : ∀ k, (s.car k).queue.length ≤ 32
  found       : ∀ k, (s.car k).found ≤ 65535
  generation  : ∀ k, (s.car k).generation ≤ 65535
  skips       : ∀ t ∈ s.allTasks, t.skip ≤ 15
  homing      : ∀ k, (s.car k).state = .homing → (s.car k).homingCount ≤ (s.car k).geometry.n + 2

/-- Limits within the ranges of R39, the BALANCE-LIMIT not above the DRIVE-LIMIT. -/
structure Limits.InRange (l : Limits) : Prop where
  drive        : 100 ≤ l.driveLimit ∧ l.driveLimit ≤ 65000
  balance      : 100 ≤ l.balanceLimit ∧ l.balanceLimit ≤ l.driveLimit
  carrierMax   : 100 ≤ l.carrierMax ∧ l.carrierMax ≤ 20000
  pulseTimeout : 200 ≤ l.pulseTimeout ∧ l.pulseTimeout ≤ 10000
  starveLimit  : l.starveLimit ≤ 15
  holdTimeout  : 1000 ≤ l.holdTimeout ∧ l.holdTimeout ≤ 60000

/-- Every setting within its range (R5, R6, R39, R110, R111, R146, R149). -/
structure State.InRange (s : State) : Prop where
  week           : s.week ≤ 65535
  setSpread      : s.setSpread ≤ 52
  laneCap        : 4 ≤ s.laneCap ∧ s.laneCap ≤ 32
  transitTimeout : 1 ≤ s.transitTimeout ∧ s.transitTimeout ≤ 120
  gaugeSpan      : 500 ≤ s.gaugeSpan ∧ s.gaugeSpan ≤ 3000
  widths         : ∀ c : Fin 8, 105 ≤ s.widths[c.val] ∧ s.widths[c.val] ≤ 395
  articles       : ∀ p : Fin 256, ∀ x : Article, s.articles[p.val] = some x → x.inRanges = true
  limits         : ∀ k, (s.car k).limits.InRange
  staged         : ∀ k, ∀ l : Limits, (s.car k).staged = some l → l.InRange

/-- A geometry R2 allows, or none, with tables of its size (R4, R24). -/
structure Carousel.Shaped (c : Carousel) : Prop where
  legal : c.geometry = ⟨0, 0, 0, []⟩ ∨
    geometryOk c.geometry.n c.geometry.s c.geometry.a (c.geometry.columns.map fun x => (x.cls, x.cap)) = true
  slots : c.slots.length = c.geometry.n * c.geometry.s
  phys  : c.phys.length = c.geometry.n
  proj  : c.proj.length = c.geometry.n

/-- Every carousel's tables have the size of its geometry. -/
def State.Shaped (s : State) : Prop := ∀ k, (s.car k).Shaped

/-- The fields of a Drive Controller and its Gauge Unit that stand together, as R44, R45, R55, R59, R66 and R148 tie them to
the carousel's state. -/
structure Carousel.Coherent (c : Carousel) : Prop where
  supervised : c.supervision.isSome = true ↔ c.state = .homing ∨ c.state = .moving
  targeted   : c.target.isSome = true ↔ c.state = .moving
  steps      : 0 < c.remaining ↔ c.state = .moving
  shown      : c.presented.isSome = true ↔ c.state = .moving ∨ c.state = .presenting
  phased     : c.phase ≠ .none ↔ c.state = .presenting
  caused     : c.cause.isSome = true ↔ c.state = .fault
  measuring  : c.gauge.measure.isSome = true ↔ c.phase = .counting ∨ c.phase = .verifying
  resting    : c.gauge.state = .idle ↔ c.gauge.measure = none
  converting : c.gauge.inFlight = .first ∨ c.gauge.inFlight = .second → c.gauge.measure.isSome = true
  configured : c.geometry.n = 0 → c.state = .offline ∧ c.offset = 0
  offset     : c.geometry.n ≠ 0 → c.offset < c.geometry.n

/-- Every carousel is coherent. -/
def State.Coherent (s : State) : Prop := ∀ k, (s.car k).Coherent

/-- The places that the drive, the Gauge Unit and the audit of a carousel name lie in its own geometry: the presented carrier (R44);
the measured slot, which is one of that carrier, and in VERIFYING the first of the handled columns not yet verified (R63, R66,
R150); those columns; and the cursor carrier of a sweep with the columns marked on it (R163, R166). -/
structure Carousel.InGeometry (k : Fin 4) (c : Carousel) : Prop where
  presented : ∀ x, c.presented = some x → x < c.geometry.n
  measured  : ∀ m : Measurement, c.gauge.measure = some m →
    m.slot.carousel = k ∧ c.presented = some m.slot.carrier ∧ m.slot.column < c.geometry.s
  counting  : c.phase = .counting → ∀ m : Measurement, c.gauge.measure = some m → m.purpose = .count
  verifying : c.phase = .verifying → ∀ m : Measurement, c.gauge.measure = some m →
    m.purpose = .verify ∧ c.unverified.head? = some m.slot.column
  handled   : ∀ j ∈ c.unverified, j < c.geometry.s ∧ c.phase = .verifying
  sweep     : ∀ w : Sweep, c.audit = .sweep w → w.cursor < c.geometry.n ∧ ∀ j ∈ w.marks, j < c.geometry.s

/-- Every carousel names places of its own geometry. -/
def State.InGeometry (s : State) : Prop := ∀ k, (s.car k).InGeometry k

/-- A lane that is not FREE and the order it was granted to name each other, and an order holds a lane exactly once it has
been granted one (R108, R119, R133, R136). -/
structure State.Paired (s : State) : Prop where
  laneOrder : ∀ l o, (s.lane l).order = some o → ∃ r : Order, s.order? o = some r ∧ r.lane = some l
  orderLane : ∀ o, ∀ r : Order, ∀ l, s.order? o = some r → r.lane = some l → (s.lane l).order = some o
  granted   : ∀ o, ∀ r : Order, s.order? o = some r → (r.lane = none ↔ r.state = .pending ∨ r.state = .allocated)
  free      : ∀ l, (s.lane l).order = none ↔ (s.lane l).state = .free

/-- The laws of one slot record (R10, R11, R12): reserved-out within the count, count and reserved-in within the capacity, an
article exactly where tyres stand or are promised, and each reservation the sum of its unwithdrawn tasks. -/
structure State.SlotLaw (s : State) (a : SlotAddr) : Prop where
  out    : (s.slot a).resOut ≤ (s.slot a).count
  room   : (s.slot a).count + (s.slot a).resIn ≤ s.capacity a
  held   : (s.slot a).held.isSome = true ↔ 0 < (s.slot a).count ∨ 0 < (s.slot a).resIn
  picks  : (s.slot a).resOut = quantitySum (s.picksOn a)
  places : (s.slot a).resIn = quantitySum (s.placesOn a)

/-- The loads and peaks of a carousel are those of its records (R25 to R27, R30). -/
structure State.Weighed (s : State) (k : Fin 4) : Prop where
  phys     : ∀ c, c < (s.car k).geometry.n → (s.car k).phys[c]? = some (s.physLoad k c)
  proj     : ∀ c, c < (s.car k).geometry.n → (s.car k).proj[c]? = some (s.projLoad k c)
  physPeak : (s.car k).physPeak = peak (s.car k).geometry.n (s.car k).phys
  projPeak : (s.car k).projPeak = peak (s.car k).geometry.n (s.car k).proj

/-- The unwithdrawn tasks of a store on a slot, in tyres. -/
def State.placing (s : State) (p : Fin 16) (a : SlotAddr) : Nat :=
  quantitySum (s.allTasks.filter fun t => t.ofStore p && t.counts && t.slot = a)

/-- The laws of a store record (R91, R97 to R104): one entry for each slot; each entry's placed tyres are those confirmed and
those of the unwithdrawn tasks there; the quantity is the sum; and only WITHDRAWN tasks are left of a CLOSING store. -/
structure State.StoreLaw (s : State) (p : Fin 16) (r : Store) : Prop where
  slots    : (r.placements.map (·.slot)).Nodup
  listed   : ∀ t ∈ s.allTasks, t.ofStore p = true → t.counts = true → t.slot ∈ r.placements.map (·.slot)
  placed   : ∀ e ∈ r.placements, e.placed = e.confirmed + s.placing p e.slot
  quantity : r.quantity = (r.placements.map (·.placed)).sum
  closing  : r.state = .closing → ∀ t ∈ s.allTasks, t.ofStore p = true → t.counts = false

/-- The reserved quantity of a line (R109): the unwithdrawn tasks of the line, in tyres. -/
def State.picking (s : State) (o : Fin 32) (l : Nat) : Nat :=
  quantitySum (s.allTasks.filter fun t => t.ofLine o l && t.counts)

/-- The count laws of an order record (R109, R113, R119 to R121): a line of an ALLOCATED or PICKING order has dispatched or reserved
its whole quantity, any line no more than that; nothing is dispatched before a lane is held, a COMPLETE order has dispatched all,
and a SHORT one holds no reservation. -/
structure State.OrderLaw (s : State) (o : Fin 32) (r : Order) : Prop where
  whole    : r.state = .allocated ∨ r.state = .picking → ∀ (n : Nat) (x : Line), r.lines[n]? = some x →
    x.dispatched + s.picking o (n + 1) = x.quantity
  most     : ∀ (n : Nat) (x : Line), r.lines[n]? = some x → x.dispatched + s.picking o (n + 1) ≤ x.quantity
  waiting  : r.state = .pending ∨ r.state = .allocated → ∀ x ∈ r.lines, x.dispatched = 0
  complete : r.state = .complete → ∀ x ∈ r.lines, x.dispatched = x.quantity
  short    : r.state = .short → ∀ t ∈ s.allTasks, t.ofOrder o = true → t.state = .withdrawn

/-- The count laws of a lane record (R133, R134, R136 to R142): dispatched is the dispatched total of its order, expected that order's
total, or under SHORT or ORPHAN the dispatched total; the flags and the lane's state go with the state of the order; a FREE lane
expects and has dispatched nothing; the transit timer runs, and TRANSIT-LATE stands, only on a FILLING lane whose arrivals are below
its dispatches; and more arrivals than dispatches stand only with OVERFLOW. -/
structure State.LaneLaw (s : State) (l : Fin 8) : Prop where
  dispatched : ∀ o, ∀ r : Order, (s.lane l).order = some o → s.order? o = some r →
    (s.lane l).dispatched = (r.lines.map (·.dispatched)).sum
  expected   : ∀ o, ∀ r : Order, (s.lane l).order = some o → s.order? o = some r →
    (s.lane l).expected = if (s.lane l).short || (s.lane l).orphan then (r.lines.map (·.dispatched)).sum
      else (r.lines.map (·.quantity)).sum
  flags      : ∀ o, ∀ r : Order, (s.lane l).order = some o → s.order? o = some r →
    ((s.lane l).orphan = true ↔ r.state = .cancelled) ∧ (r.state = .short → (s.lane l).short = true) ∧
      ((s.lane l).short = true → r.state = .short ∨ r.state = .cancelled)
  states     : ∀ o, ∀ r : Order, (s.lane l).order = some o → s.order? o = some r →
    ((s.lane l).state = .filling → r.state ≠ .complete) ∧ ((s.lane l).state = .ready → r.state ≠ .picking)
  free       : (s.lane l).state = .free → (s.lane l).expected = 0 ∧ (s.lane l).dispatched = 0 ∧ (s.lane l).short = false ∧
    (s.lane l).orphan = false
  transit    : (s.lane l).timer.isSome = true ∨ (s.lane l).late = true →
    (s.lane l).state = .filling ∧ (s.lane l).arrived < (s.lane l).dispatched
  overflowed : (s.lane l).dispatched < (s.lane l).arrived → (s.lane l).overflow = true

/-- A task has an owner: a line of an order record, or a store record (R68). -/
def State.Owned (s : State) (t : Task) : Prop :=
  match t.owner with
  | .pick o l => ∃ r, s.order? o = some r ∧ 1 ≤ l ∧ l ≤ r.lines.length
  | .place p => (s.store? p).isSome = true

/-- The Slot Table, the tasks, the records of their owners and the lanes agree (R10 to R12, R25 to R30, R68 to R72, R91, R108, R109,
R119 to R121, R133 to R142). -/
structure State.Lawful (s : State) : Prop where
  slots    : ∀ a, (s.car a.carousel).hasSlot a.carrier a.column = true → s.SlotLaw a
  weighed  : ∀ k, s.Weighed k
  stores   : ∀ p r, s.store? p = some r → s.StoreLaw p r
  orders   : ∀ o r, s.order? o = some r → s.OrderLaw o r
  lanes    : ∀ l, s.LaneLaw l
  ids      : (s.allTasks.map (·.id)).Nodup
  fresh    : ∀ t ∈ s.allTasks, t.id < s.nextTask
  tasks    : ∀ t ∈ s.allTasks,
    1 ≤ t.quantity ∧ (s.car t.slot.carousel).hasSlot t.slot.carrier t.slot.column = true ∧ s.Owned t
  waiting  : ∀ t ∈ s.waiting, t.state = .unreleased
  queued   : ∀ k, ∀ t ∈ (s.car k).queue, t.slot.carousel = k ∧ t.state ≠ .unreleased
  shown    : ∀ k, ∀ t ∈ (s.car k).queue, t.state = .shown ∨ t.state = .withdrawn → (s.car k).handling = true
  released : ∀ k, ∀ t ∈ (s.car k).queue, ∀ o r, t.ofOrder o = true → s.order? o = some r →
    r.state ≠ .pending ∧ r.state ≠ .allocated
  pending  : ∀ o r, s.order? o = some r → r.state = .pending → s.orderTasks o = []
  ready    : ∀ l o, (s.lane l).state = .ready → (s.lane l).order = some o → s.orderTasks o = []
  holds    : ∀ k, ∀ x ∈ (s.car k).slots, ∀ h : Held, x.held = some h → (s.article? h.article).isSome = true
  storing  : ∀ p r, s.store? p = some r → (s.article? r.article).isSome = true
  ordering : ∀ o r, s.order? o = some r → ∀ x ∈ r.lines, (s.article? x.article).isSome = true

/-- At the close of an event a task queue is full, or no releasable task waits for its carousel (R71). -/
def State.Filled (s : State) : Prop := ∀ k, 32 ≤ (s.car k).queue.length ∨ s.releasableFor k = []

/-! ## The retry of PENDING orders -/

/-- One order stands before another in retry order (R108, R123). -/
def Order.Before (r x : Order) : Prop :=
  (x.priority < r.priority ∧ r.priority ≤ 3) ∨ (x.priority = r.priority ∧ r.seq < x.seq)

/-- What an event leaves that changed nothing of the orders but to retry the PENDING ones (R122, R123). Where no PENDING order can be
filled, orders, lanes and reserved-out stay. Where the first in retry order can be filled, it becomes ALLOCATED, or PICKING with a
lane, its tyres are reserved, and ORDER-ALLOCATED is the first notice. -/
structure State.Retried (s u : State) : Prop where
  unfilled : (∀ o r, s.order? o = some r → r.state = .pending → s.takeLines r.jobs s.openTrial = none) →
    u.orders = s.orders ∧ u.lanes = s.lanes ∧ ∀ a, (u.slot a).resOut = (s.slot a).resOut
  filled   : ∀ o r picks, s.order? o = some r → r.state = .pending →
    (∀ q x, q ≠ o → s.order? q = some x → x.state = .pending → r.Before x) →
    s.takeLines r.jobs s.openTrial = some picks →
    (u.order? o = some { r with state := .allocated } ∨
      ∃ l, u.order? o = some { r with state := .picking, lane := some l }) ∧
    (s.raise .orderAllocated [.u16 r.code, .u8 r.priority, .u32 r.seq]).link.notices <+: u.link.notices ∧
    ∀ a, (s.car a.carousel).hasSlot a.carrier a.column = true →
      (s.slot a).resOut + picks.flatten.count a ≤ (u.slot a).resOut

/-! ## Drives -/

/-- The creep flag as a creep decision leaves it (R37): on exactly while the physical peak is above the DRIVE-LIMIT. -/
def Carousel.creeps (c : Carousel) : Bool := c.limits.driveLimit < c.physPeak

/-- The period of pulse supervision of a drive that starts with the creep flag so decided (R48, R53). -/
def Carousel.startPeriod (c : Carousel) : Nat :=
  if c.creeps then 4 * c.limits.pulseTimeout else c.limits.pulseTimeout

/-- The notice a creep decision sends where it changes the flag (R37): CREEP-ON or CREEP-OFF. -/
def State.creepTold (s : State) (k : Fin 4) : State :=
  if (s.car k).creep = (s.car k).creeps then s
  else s.raise (if (s.car k).creeps then .creepOn else .creepOff)
    [.u8 k.val, .u16 (min (s.car k).physPeak 65535), .u16 (s.car k).limits.driveLimit]

/-- What a homing that begins leaves of its carousel, with the notice of the creep decision alone (R37, R48). -/
def State.HomingBegun (s : State) (k : Fin 4) (u : State) : Prop :=
  (u.car k).state = .homing ∧ (u.car k).known = false ∧ (u.car k).cause = none ∧ (u.car k).homingCount = 0 ∧
    (u.car k).direction = .forward ∧ (u.car k).creep = (s.car k).creeps ∧
    (u.car k).supervision = some ⟨(s.car k).startPeriod, (s.car k).startPeriod⟩ ∧
    (u.car k).offset = (s.car k).offset ∧ (u.car k).queue = (s.car k).queue ∧ (u.car k).slots = (s.car k).slots ∧
    (u.car k).staged = (s.car k).staged ∧ (∀ j, j ≠ k → u.car j = s.car j) ∧ u.orders = s.orders ∧
    u.lanes = s.lanes ∧ u.stores = s.stores ∧ u.entries = s.entries ∧ u.waiting = s.waiting ∧ s.Kept u ∧
    u.link = (s.creepTold k).link

/-- The forward steps that bring a carrier to the opening (R53). -/
def Carousel.stepsTo (c : Carousel) (carrier : Nat) : Nat :=
  let n := c.geometry.n
  let target := (c.geometry.a + n - carrier % n) % n
  (target + n - c.offset % n) % n

/-- What a motion start toward a carrier leaves, with the notice of the creep decision alone: the drive runs the shorter way, forward
on a tie (R37, R53). -/
def State.MotionBegun (s : State) (k : Fin 4) (carrier : Nat) (u : State) : Prop :=
  let n := (s.car k).geometry.n
  let d := (s.car k).stepsTo carrier
  u = (s.creepTold k).modCar k fun c => { c with
    state := .moving
    creep := (s.car k).creeps
    target := some (((s.car k).geometry.a + n - carrier % n) % n)
    remaining := if d ≤ n - d then d else n - d
    direction := if d ≤ n - d then .forward else .reverse
    presented := some carrier
    supervision := some ⟨(s.car k).startPeriod, (s.car k).startPeriod⟩ }

/-- What an event that ends a presentation early leaves (R67, R88, R159). A measurement in progress is abandoned. SHOWN tasks stand
QUEUED in their places and WITHDRAWN ones are gone; any other queue is only added to at its tail. Counts and reservations stay. No
COUNT_DUE is lost, and the handled slots not yet verified are COUNT_DUE. -/
structure State.EndedEarly (s t : State) (k : Fin 4) (cause : AbandonCause) : Prop where
  abandoned  : ∀ m : Measurement, (s.car k).gauge.measure = some m →
    (s.car k).phase = .counting ∨ (s.car k).phase = .verifying →
    (t.car k).gauge = { (s.car k).gauge with
      state := .idle
      measure := none
      inFlight := if (s.car k).gauge.inFlight = .none then .none else .orphaned
      last := some ⟨m.slot, m.purpose, .abandoned cause⟩ }
  returned   : (s.allTasks.map (·.id)).Nodup → (s.car k).phase = .handling →
    (((s.car k).queue.filter fun x => x.state ≠ .withdrawn).map fun x =>
      if x.state = .shown then { x with state := .queued } else x) <+: (t.car k).queue
  queue      : (s.allTasks.map (·.id)).Nodup → (s.car k).phase ≠ .handling → (s.car k).queue <+: (t.car k).queue
  kept       : s.Sound → s.Shaped → ∀ a, (s.car a.carousel).hasSlot a.carrier a.column = true →
    (t.slot a).count = (s.slot a).count ∧ (t.slot a).resOut = (s.slot a).resOut ∧ (t.slot a).resIn = (s.slot a).resIn
  due        : s.Shaped → ∀ a, (s.car a.carousel).hasSlot a.carrier a.column = true → (s.slot a).due = true →
    (t.slot a).due = true
  unverified : s.Shaped → (s.car k).phase = .verifying → ∀ c, (s.car k).presented = some c →
    ∀ j ∈ (s.car k).unverified, (s.car k).hasSlot c j = true → (t.slot ⟨k, c, j⟩).due = true

/-- A carousel in FAULT after an event (R59): the cause held, the position unknown, the drive's fields removed, a presentation ended
early, and on a sound memory CAROUSEL-FAULT as the first notice, with the offset held, the presented carrier and the state left. -/
def State.Faulted (s : State) (k : Fin 4) (cause : FaultCause) (t : State) : Prop :=
  (t.car k).state = .fault ∧ (t.car k).cause = some cause ∧ (t.car k).known = false ∧ (t.car k).supervision = none ∧
    (t.car k).target = none ∧ (t.car k).remaining = 0 ∧ (t.car k).homingCount = 0 ∧ (t.car k).presented = none ∧
    (t.car k).phase = .none ∧ s.EndedEarly t k .drift ∧
    (s.Sound → (s.raise .carouselFault ([.u8 k.val, .u8 cause.code, .u8 (t.car k).offset] ++ optU8 (s.car k).presented ++
      [.u8 (s.car k).state.code])).link.notices <+: t.link.notices)

/-- What an event leaves that ended the presentation of a carousel at its proper end (R50, R64, R66): the carousel entered IDLE, where
staged limits are applied, and was offered; it rests there with nothing presented, or runs to or presents a carrier with work. -/
structure State.EnteredIdle (s t : State) (k : Fin 4) : Prop where
  limits  : (t.car k).limits = (s.car k).staged.getD (s.car k).limits
  staged  : (t.car k).staged = none
  state   : (t.car k).state = .idle ∨ (t.car k).state = .moving ∨ (t.car k).state = .presenting
  resting : (t.car k).state = .idle → (t.car k).phase = .none ∧ (t.car k).presented = none ∧ (t.car k).unverified = []
  working : (t.car k).queue = [] → (∀ r ∈ (t.car k).slots, r.due = false) → (t.car k).state = .idle

/-- What an event leaves that asked the Gauge Unit of a carousel, whose unit was IDLE or had just ended a measurement, for the
measurement of a column of the presented carrier (R63, R66, R150); the last result is not told here. -/
def State.Measures (s t : State) (k : Fin 4) (phase : Phase) (column : Nat) (purpose : Purpose) : Prop :=
  (t.car k).state = .presenting ∧ (t.car k).phase = phase ∧ (t.car k).presented = (s.car k).presented ∧
    (t.car k).gauge = { (s.car k).gauge with
      state := .settling
      measure := some ⟨⟨k, (s.car k).presented.getD 0, column⟩, purpose⟩
      column := some column
      inFlight := if (s.car k).gauge.inFlight = .orphaned then .orphaned else .first
      last := (t.car k).gauge.last }

/-! ## Runs of several commands -/

/-- Commands taken one after another, from a state: the state after the last, while each answers a next state. -/
def runAll : List Instr → State → Out
  | [], s => .next s
  | i :: rest, s =>
    match exec i s with
    | .next t => runAll rest t
    | .fault f => .fault f
    | .refused r => .refused r

end Sys2Proof.Machine
end

