-- ==== Sys2Proof/Certificates/Slice0/Obligations.lean ====
section
/-! DEFINITION. The statements for the provers: one proposition each, in the terms of the machine and of Sys2Proof/Safety.lean. -/

open Sys2Proof Sys2Proof.Machine

/-! ## The step, reset and the invariants -/

/-- A step takes the command at the front of the queue and is that command's meaning on the state with the queue's rest. -/
def Obligations.StepTakesFront : Prop :=
  ∀ (c : Instr) (rest : List Instr) (s : State), s.pending = c :: rest → step s = exec c { s with pending := rest }

/-- With no command waiting a step lets one millisecond pass (the model's choice, log 1): both clocks, the gap timer and the
running supervision timers move by it. Nothing else changes but the model's own count of idle milliseconds, and that a slot
record may be struck by an upset (section 1.4; the model's free value, log 7), which alters no field as last written. -/
def Obligations.IdleStepPassesOneMillisecond : Prop :=
  ∀ s : State, s.pending = [] → ∃ t : State, step s = .next t ∧
    { t with carousels := s.carousels } = { s with
      schedClock := s.schedClock + 1, laneClock := s.laneClock + 1, idleTicks := s.idleTicks + 1
      link := { s.link with gap := s.link.gap + 1 } } ∧
    ∀ k, { t.car k with slots := (s.car k).slots } =
        { s.car k with supervision := (s.car k).supervision.map fun v => { v with left := v.left - 1 } } ∧
      (t.car k).slots.length = (s.car k).slots.length ∧
      ∀ (i : Nat) (r : Slot), (s.car k).slots[i]? = some r →
        ∃ r' : Slot, (t.car k).slots[i]? = some r' ∧ { r' with damage := r.damage } = r

/-- The values after power-on that the chapters give: every carousel unconfigured and OFFLINE with the limits of R39, every
table empty, every count 0, the settings at their defaults, the link idle. The rate and the ESTOP level are left out (the
outside's, log 11); the next task number, the count of idle milliseconds, the mark of the spent sequence number and the list of
handled columns are the model's own (logs 7, 16 and 18). -/
def Obligations.PowerOnValues : Prop :=
  (∀ k, State.reset.car k =
    { geometry := ⟨0, 0, 0, []⟩, limits := ⟨20000, 15000, 20000, 2000, .off, 4, 30000, false⟩, staged := none
      zones := Vector.replicate 4 none, state := .offline, offset := 0, known := false, direction := .forward
      target := none, remaining := 0, presented := none, phase := .none, homingCount := 0, supervision := none
      cause := none, creep := false, slots := [], phys := [], proj := [], physPeak := 0, projPeak := 0, armed := true
      queue := [], gauge := ⟨.idle, none, none, .none, none⟩, unverified := [], audit := .none, found := 0
      generation := 0 }) ∧
  (∀ c : Fin 8, State.reset.widths[c.val] = 205) ∧ (∀ p : Fin 256, State.reset.articles[p.val] = none) ∧
  (∀ o, State.reset.order? o = none) ∧ (∀ p, State.reset.store? p = none) ∧
  (∀ l, State.reset.lane l = ⟨.free, none, 0, 0, 0, false, false, false, false, none⟩) ∧
  State.reset.entries = [] ∧ State.reset.corrections = 0 ∧ State.reset.waiting = [] ∧ State.reset.nextTask = 0 ∧
  State.reset.workSeq = 0 ∧ State.reset.workSeqSpent = false ∧ State.reset.lastStore = 0 ∧
  State.reset.schedClock = 0 ∧ State.reset.laneClock = 0 ∧ State.reset.idleTicks = 0 ∧
  State.reset.week = 0 ∧ State.reset.setSpread = 26 ∧ State.reset.cancelMode = .withdraw ∧ State.reset.laneCap = 24 ∧
  State.reset.transitTimeout = 30 ∧ State.reset.gaugeSpan = 1600 ∧ State.reset.pending = [] ∧
  (∀ r, { State.reset.link with rate := r } =
    { rate := r, receiver := .hunt, gap := 0, received := [], replies := [], notices := [], lastNumber := 0, lost := 0
      discarded := 0, refused := 0, sending := none, lastSource := .notice })

/-- The eight invariants below hold in the state after power-on. -/
def Obligations.InvariantsHoldAtReset : Prop :=
  State.reset.Bounded ∧ State.reset.InRange ∧ State.reset.Shaped ∧ State.reset.Coherent ∧ State.reset.Paired ∧
    State.reset.Lawful ∧ State.reset.Filled ∧ State.reset.InGeometry

/-- No step takes one of these past the depth or range the part gives it: the receive queue, the LINK-FULL replies and the notice
queue, the counts and numbers of the link, the correction count, the work sequence number, the last store number, the
discrepancy list with one entry for each slot, the task queues with the skip counts of their tasks, the homing pulse count, and
the entries found and generations of the audits. -/
def Obligations.DepthsAndCountsStayBounded : Prop :=
  ∀ s t : State, s.Bounded → step s = .next t → t.Bounded

/-- No step takes a setting, a limit or an article record out of its range. -/
def Obligations.SettingsStayInRange : Prop :=
  ∀ s t : State, s.InRange → step s = .next t → t.InRange

/-- Every step leaves each carousel's records and loads in the number its geometry gives, and the geometry legal. And it keeps the
laws of what the tables hold: for each slot reserved-out within the count, the count and reserved-in within the capacity, an article
exactly where tyres stand or are promised, and both reservations the sums of the tasks; for each carrier the loads of its records,
and for each carousel the peaks of its loads; for each store its quantity and placements those of its tasks; for each line of an
ALLOCATED or PICKING order its quantity dispatched or reserved; for each lane its dispatched and expected counts those of its order,
its transit timer running only while arrivals are below dispatches, and an excess of arrivals only with OVERFLOW; and the links
between tasks, their owners, slots and articles; and what a carousel presents, measures, is yet to verify and sweeps lies in its own
geometry. And at its end every task queue is full, or no releasable task waits for its carousel. -/
def Obligations.TablesKeepTheirShape : Prop :=
  (∀ s t : State, s.Shaped → step s = .next t → t.Shaped) ∧
  (∀ s t : State, s.Shaped → s.Coherent → s.Paired → s.InGeometry → s.Lawful → step s = .next t →
    t.Lawful ∧ t.InGeometry) ∧
  (∀ s t : State, s.Filled → step s = .next t → t.Filled)

/-- Every step keeps the fields of the Drive Controllers and Gauge Units together as the carousel's state asks: supervision
runs exactly in HOMING and MOVING, a target stands exactly in MOVING, a phase exactly in PRESENTING, a fault cause exactly
in FAULT, a measurement exactly in COUNTING and VERIFYING, and the offset stays below N. -/
def Obligations.DrivesStayCoherent : Prop :=
  ∀ s t : State, s.Coherent → step s = .next t → t.Coherent

/-- Every step keeps lanes and the orders they hold naming each other. -/
def Obligations.LanesAndOrdersStayPaired : Prop :=
  ∀ s t : State, s.Paired → step s = .next t → t.Paired

/-- Every command answers a next state: none stops the part. Only the two ESTOP edges change the held ESTOP level, and no other
command changes the level as it stands (log 10). No command takes another out of the queue but a RESET taking effect, by
RESET_EFFECT or by FRAME_SENT of its reply, which drops the lane edges that wait (R133; the model's reading, log 9). -/
def Obligations.CommandsKeepTheOutside : Prop :=
  ∀ (i : Instr) (s : State), ∃ t : State, exec i s = .next t ∧
    (i = .estopAssert → t.estop = true) ∧ (i = .estopRelease → t.estop = false) ∧
    (i ≠ .estopAssert → i ≠ .estopRelease → t.estop = s.estop ∧ t.estopLevel = s.estopLevel) ∧
    (i ≠ .resetEffect → i ≠ .frameSent → t.pending = s.pending) ∧
    (t.pending = s.pending ∨ t.pending = s.pending.filter fun c => !isLaneEdge c)

/-! ## The link: receiving -/

/-- The receiver takes a byte without framing error, within 20 ms of the one before: HUNT passes over all but a marker, the
length byte opens CONTENT, the last content byte opens CHECK, and the first check byte is held. -/
def Obligations.ReceiverTakesBytes : Prop :=
  ∀ (b : Byte) (s : State),
    (s.link.receiver = .hunt → b ≠ 0xA5#8 → exec (.receivedByte b false) s = .next s) ∧
    (s.link.receiver = .hunt → b = 0xA5#8 →
      exec (.receivedByte b false) s = .next { s with link := { s.link with receiver := .length, gap := 0 } }) ∧
    (s.link.gap ≤ 20 → s.link.receiver = .length → 2 ≤ b.toNat → b.toNat ≤ 250 →
      exec (.receivedByte b false) s =
        .next { s with link := { s.link with receiver := .content b.toNat [], gap := 0 } }) ∧
    (∀ (len : Nat) (taken : List Byte), s.link.gap ≤ 20 → s.link.receiver = .content len taken → taken.length + 1 < len →
      exec (.receivedByte b false) s =
        .next { s with link := { s.link with receiver := .content len (taken ++ [b]), gap := 0 } }) ∧
    (∀ (len : Nat) (taken : List Byte), s.link.gap ≤ 20 → s.link.receiver = .content len taken → taken.length + 1 = len →
      exec (.receivedByte b false) s =
        .next { s with link := { s.link with receiver := .check len (taken ++ [b]) none, gap := 0 } }) ∧
    (∀ (len : Nat) (taken : List Byte), s.link.gap ≤ 20 → s.link.receiver = .check len taken none →
      exec (.receivedByte b false) s =
        .next { s with link := { s.link with receiver := .check len taken (some b), gap := 0 } })

/-- A frame is discarded, the receiver going back to HUNT and the count of discarded frames rising by 1 up to 65535: by the gap
timer, by a framing error outside HUNT, by a length byte out of range, by a check that disagrees. In HUNT a framing error changes
nothing. The model's choices: the gap timer's expiry moves time to 21 ms after the last byte, or not at all once that has passed
(log 2), in HUNT it changes nothing (log 3); a byte more than 20 ms late is examined in HUNT after the discard, and
FRAME_RECEIVED discards a content of a length that no length byte gives, whatever the receiver held (log 21). -/
def Obligations.BrokenFramesAreDiscarded : Prop :=
  ∀ s : State,
    let gone (u : State) : State := { u with link := { u.link with
      receiver := .hunt, gap := 0, discarded := min 65535 (u.link.discarded + 1) } }
    (s.link.receiver = .hunt → exec .gapTimeout s = .next s ∧ ∀ b, exec (.receivedByte b true) s = .next s) ∧
    (s.link.receiver ≠ .hunt → exec .gapTimeout s = .next (gone (s.advance (21 - s.link.gap)))) ∧
    (s.link.receiver ≠ .hunt → s.link.gap ≤ 20 → ∀ b, exec (.receivedByte b true) s = .next (gone s)) ∧
    (s.link.receiver ≠ .hunt → 20 < s.link.gap → ∀ b f,
      exec (.receivedByte b f) s = exec (.receivedByte b f) (gone s)) ∧
    (s.link.receiver = .length → s.link.gap ≤ 20 → ∀ b : Byte, b.toNat < 2 ∨ 250 < b.toNat →
      exec (.receivedByte b false) s = .next (gone s)) ∧
    (∀ (content : List Byte) (check : Check),
      content.length < 2 ∨ 250 < content.length ∨ frameCheck (low content.length :: content) ≠ check →
      exec (.frameReceived content check) s = .next (gone s))

/-- A well-formed frame that cannot be dispatched at once joins the receive queue at its tail; with four frames waiting it is
refused, counted, and answered LINK-FULL while fewer than four such replies wait. FRAME_RECEIVED leaves the receiver in HUNT
whatever it held before (the model's choice, log 21). -/
def Obligations.FramesAreQueuedOrRefused : Prop :=
  ∀ (kind tag : Byte) (body : List Byte) (s : State), body.length ≤ 248 →
    let content := kind :: tag :: body
    let check := frameCheck (low content.length :: content)
    let heard : Link := { s.link with receiver := .hunt, gap := 0 }
    (s.link.received.length < 4 → s.link.received ≠ [] ∨ s.link.free = false →
      exec (.frameReceived content check) s =
        .next { s with link := { heard with received := s.link.received ++ [⟨kind.toNat, tag.toNat, body⟩] } }) ∧
    (4 ≤ s.link.received.length →
      exec (.frameReceived content check) s =
        .next { s with link := { heard with
          refused := min 65535 (s.link.refused + 1)
          replies := if s.link.linkFulls < 4
            then s.link.replies ++ [⟨kind.toNat, tag.toNat, .linkFull, [], false⟩] else s.link.replies } })

/-- A frame that completes at an empty queue with no reply in hand is dispatched in that event, and DISPATCH takes the frame at
the head of the queue: a kind or body length that R190 does not allow is answered BAD-FORM, an enumerated byte that names no row
of the table BAD-VALUE (log 23), and any other frame is the request it spells, run in that event. The model's choices:
FRAME_RECEIVED acts in any state of the receiver (log 21), and without a frame, or with a reply in hand, DISPATCH changes nothing
(log 3). -/
def Obligations.FramesAreDispatched : Prop :=
  (∀ (kind tag : Byte) (body : List Byte) (s : State), body.length ≤ 248 → s.link.received = [] → s.link.free = true →
    let content := kind :: tag :: body
    let check := frameCheck (low content.length :: content)
    let heard : State := { s with link := { s.link with receiver := .hunt, gap := 0 } }
    (decodeRequest kind.toNat tag.toNat body = .badForm →
      exec (.frameReceived content check) s = .next (heard.reply kind.toNat tag.toNat .badForm [])) ∧
    (decodeRequest kind.toNat tag.toNat body = .badValue →
      exec (.frameReceived content check) s = .next (heard.reply kind.toNat tag.toNat .badValue [])) ∧
    (∀ i, decodeRequest kind.toNat tag.toNat body = .request i →
      ∃ t, exec i heard = .next t ∧ exec (.frameReceived content check) s = .next t)) ∧
  (∀ (f : RxFrame) (rest : List RxFrame) (s : State), s.link.received = f :: rest → s.link.free = true →
    let left : State := { s with link := { s.link with received := rest } }
    (decodeRequest f.kind f.tag f.body = .badForm → exec .dispatch s = .next (left.reply f.kind f.tag .badForm [])) ∧
    (decodeRequest f.kind f.tag f.body = .badValue → exec .dispatch s = .next (left.reply f.kind f.tag .badValue [])) ∧
    (∀ i, decodeRequest f.kind f.tag f.body = .request i →
      ∃ t, exec i left = .next t ∧ exec .dispatch s = .next t)) ∧
  (∀ s : State, s.link.received = [] ∨ s.link.free = false → exec .dispatch s = .next s)

/-- The receiver taken byte by byte agrees with the frame taken whole: from HUNT, the marker, the length, the content and the
two check bytes, taken one after another, leave exactly the state that the row FRAME_RECEIVED leaves, whatever the check
is. -/
def Obligations.BytesMakeFrames : Prop :=
  ∀ (content : List Byte) (check : Check) (s : State), 2 ≤ content.length → content.length ≤ 250 →
    s.link.receiver = .hunt →
    runAll (((0xA5#8 :: low content.length :: content) ++ [low (check.toNat / 256), low check.toNat]).map
        fun b => .receivedByte b false) s =
      exec (.frameReceived content check) s

/-- The frame check over the nine bytes 0x31 to 0x39 is 0x29B1. A field goes out high byte first. A frame the part sends is the
marker, the count of its content, its content and the check of both, high byte first; the content of a reply is 0xC0, the tag,
the kind, the status and the fields, that of a notice 0xC1, 0, the kind, the lost count, the number and the fields. On the line a
byte is a start bit, its eight bits with the least significant first, and a stop bit at the other level (that it is the other is
the model's reading, log 32), and a byte so received is that byte, with a framing error where the stop bit is at the wrong
level. -/
def Obligations.FramesCarryTheirCheck : Prop :=
  frameCheck [0x31#8, 0x32#8, 0x33#8, 0x34#8, 0x35#8, 0x36#8, 0x37#8, 0x38#8, 0x39#8] = 0x29B1#16 ∧
  (∀ (a b c d : Nat) (m : Bool), fieldBytes [.u8 a, .u16 b, .u24 c, .u32 d, .mark m] =
    [low a, low (b / 256), low b, low (c / 65536), low (c / 256), low c, low (d / 16777216), low (d / 65536),
      low (d / 256), low d, low m.toNat]) ∧
  (∀ r : Reply,
    let content := [0xC0#8, low r.tag, low r.kind, low r.status.code] ++ fieldBytes r.fields
    TxFrame.bytes (.reply r) = 0xA5#8 :: low content.length :: content ++
      [low ((frameCheck (low content.length :: content)).toNat / 256),
        low (frameCheck (low content.length :: content)).toNat]) ∧
  (∀ n : Notice,
    let content := [0xC1#8, 0#8, low n.kind.code, low n.lost, low (n.number / 256), low n.number] ++
      fieldBytes n.fields
    TxFrame.bytes (.notice n) = 0xA5#8 :: low content.length :: content ++
      [low ((frameCheck (low content.length :: content)).toNat / 256),
        low (frameCheck (low content.length :: content)).toNat]) ∧
  (∀ b : Byte,
    let data := [b.getLsbD 0, b.getLsbD 1, b.getLsbD 2, b.getLsbD 3, b.getLsbD 4, b.getLsbD 5, b.getLsbD 6, b.getLsbD 7]
    lineBits b = false :: data ++ [true] ∧ received? (false :: data ++ [true]) = some (.receivedByte b false) ∧
      received? (false :: data ++ [false]) = some (.receivedByte b true)) ∧
  ∀ f : TxFrame, f.line = f.bytes.flatMap lineBits

/-! ## The link: sending, notices and resets -/

/-- A free transmitter sends the oldest frame of the only source that holds one, or of the source not served last when both do;
a frame leaves its queue as it begins. With nothing to send, or while a frame is being sent, the row changes nothing (the model's
choice, log 3). -/
def Obligations.TransmitterAlternates : Prop :=
  ∀ s : State,
    let onReply (r : Reply) (rs : List Reply) : State :=
      { s with link := { s.link with replies := rs, sending := some (.reply r), lastSource := .reply } }
    let onNotice (n : Notice) (ns : List Notice) : State :=
      { s with link := { s.link with notices := ns, sending := some (.notice n), lastSource := .notice } }
    (s.link.sending ≠ none ∨ (s.link.replies = [] ∧ s.link.notices = []) → exec .transmitFrame s = .next s) ∧
    (∀ r rs, s.link.sending = none → s.link.replies = r :: rs → s.link.notices = [] ∨ s.link.lastSource = .notice →
      exec .transmitFrame s = .next (onReply r rs)) ∧
    (∀ n ns, s.link.sending = none → s.link.notices = n :: ns → s.link.replies = [] ∨ s.link.lastSource = .reply →
      exec .transmitFrame s = .next (onNotice n ns))

/-- When the last byte of a frame is sent the transmitter is free and begins the next frame that waits, as TRANSMIT_FRAME would.
The reply of any dispatched frame but an accepted RESET then brings the dispatch of the next frame (that the next frame begins
before the dispatch is the model's reading of the example of 10.8, log 6); a notice or a LINK-FULL reply brings nothing more. The
reply of an accepted RESET brings the effect alone (log 5). With no frame being sent the row changes nothing (the model's choice,
log 3). -/
def Obligations.SentFramesFreeTheTransmitter : Prop :=
  ∀ s : State,
    let free : State := { s with link := { s.link with sending := none } }
    ∃ u : State, exec .transmitFrame free = .next u ∧
      (∀ n, s.link.sending = some (.notice n) → exec .frameSent s = .next u) ∧
      (∀ r : Reply, s.link.sending = some (.reply r) → r.solicited = false → exec .frameSent s = .next u) ∧
      (∀ r : Reply, s.link.sending = some (.reply r) → r.solicited = true → r.kind = 0x02 → r.status = .accepted →
        ∃ t, exec .frameSent s = .next t ∧ exec .resetEffect free = .next t) ∧
      (∀ r : Reply, s.link.sending = some (.reply r) → r.solicited = true → r.kind ≠ 0x02 ∨ r.status ≠ .accepted →
        ∃ t, exec .frameSent s = .next t ∧ exec .dispatch u = .next t) ∧
      (s.link.sending = none → exec .frameSent s = .next s)

/-- A raised notice takes the number after the last given, 65535 being followed by 0. With fewer than 48 waiting it joins the tail
with the pending lost count, which becomes 0; else it is lost and counted, up to 255. Nothing else changes. -/
def Obligations.NoticesTakeNumbersInTurn : Prop :=
  ∀ (kind : NoticeKind) (fields : List Field) (s : State), s.link.lastNumber ≤ 65535 →
    let n := if s.link.lastNumber = 65535 then 0 else s.link.lastNumber + 1
    (s.link.notices.length < 48 → s.raise kind fields =
      { s with link := { s.link with
        lastNumber := n, notices := s.link.notices ++ [⟨kind, n, s.link.lost, fields⟩], lost := 0 } }) ∧
    (48 ≤ s.link.notices.length → s.raise kind fields =
      { s with link := { s.link with lastNumber := n, lost := min 255 (s.link.lost + 1) } })

/-- POWER_ON and RESET_PIN leave the values after power-on, with the rate as strapped. The ESTOP level and the commands that wait
are the outside's and stay (log 11). A RESET request is answered and changes nothing else in its event. -/
def Obligations.PowerOnAndResetAnswer : Prop :=
  (∀ (a b : Bool) (s : State),
    let t : State := { State.reset with
      link := { State.reset.link with rate := match a, b with
        | false, false => .b9600
        | false, true => .b19200
        | true, false => .b57600
        | true, true => .b115200 }
      estop := s.estop, idleTicks := s.idleTicks, pending := s.pending }
    exec (.powerOn a b) s = .next t ∧ exec (.resetPin a b) s = .next t) ∧
  ∀ (tag : Nat) (s : State), exec (.reset tag) s =
    .next { s with link := { s.link with replies := s.link.replies ++ [⟨0x02, tag, .accepted, [], true⟩] } }

/-- A RESET request takes effect: orders, stores, lanes, tasks, audits, discrepancy entries and the link but its rate are cleared,
every carousel is OFFLINE with its position unknown, and geometry, limits, zone locks, offset, direction, creep flag, articles,
classes, week and policies are kept. A measurement in progress is abandoned. Each sound record keeps its count, SUSPECT and the
article of its tyres, loses its reservations and DISPUTED, and is COUNT_DUE if it was due, disputed or suspect; the projected
loads become the physical ones, and where they change the arming mark is evaluated. The model's choices and readings: the row acts
whenever it is given (log 5), and the waiting lane edges leave the queue (log 9). -/
def Obligations.ResetEffectClearsTheWork : Prop :=
  ∀ s : State, ∃ t : State, exec .resetEffect s = .next t ∧
    t.link = Link.initial s.link.rate ∧ (∀ o, t.order? o = none) ∧ (∀ p, t.store? p = none) ∧
    (∀ l, t.lane l = Lane.initial) ∧ t.waiting = [] ∧ t.entries = [] ∧ t.workSeq = 0 ∧ t.lastStore = 0 ∧
    t.articles = s.articles ∧ t.widths = s.widths ∧ t.week = s.week ∧ t.setSpread = s.setSpread ∧
    t.cancelMode = s.cancelMode ∧ t.laneCap = s.laneCap ∧ t.transitTimeout = s.transitTimeout ∧
    t.gaugeSpan = s.gaugeSpan ∧ t.estop = s.estop ∧ t.pending = s.pending.filter (fun c => !isLaneEdge c) ∧
    ∀ k, (t.car k).state = .offline ∧ (t.car k).known = false ∧ (t.car k).target = none ∧ (t.car k).remaining = 0 ∧
      (t.car k).presented = none ∧ (t.car k).phase = .none ∧ (t.car k).homingCount = 0 ∧
      (t.car k).supervision = none ∧ (t.car k).cause = none ∧ (t.car k).staged = none ∧ (t.car k).queue = [] ∧
      (t.car k).unverified = [] ∧ (t.car k).audit = .none ∧ (t.car k).found = 0 ∧ (t.car k).generation = 0 ∧
      (t.car k).geometry = (s.car k).geometry ∧ (t.car k).limits = (s.car k).limits ∧ (t.car k).zones = (s.car k).zones ∧
      (t.car k).offset = (s.car k).offset ∧ (t.car k).direction = (s.car k).direction ∧
      (t.car k).creep = (s.car k).creep ∧ (t.car k).proj = (t.car k).phys ∧ (t.car k).projPeak = (t.car k).physPeak ∧
      (t.car k).armed = (if (s.car k).proj = (t.car k).proj then (s.car k).armed
        else decide ((t.car k).projPeak ≤ (s.car k).limits.balanceLimit)) ∧
      (s.Coherent → (t.car k).gauge = match (s.car k).gauge.measure with
        | none => (s.car k).gauge
        | some m => { (s.car k).gauge with
          state := .idle
          measure := none
          inFlight := if (s.car k).gauge.inFlight = .none then .none else .orphaned
          last := some ⟨m.slot, m.purpose, .abandoned .reset⟩ }) ∧
      ∀ (i : Nat) (r : Slot), (s.car k).slots[i]? = some r → r.damage = .sound →
        ∃ r' : Slot, (t.car k).slots[i]? = some r' ∧ r'.damage = .sound ∧ r'.count = r.count ∧
          r'.held = (if r.count = 0 then none else r.held) ∧ r'.resOut = 0 ∧ r'.resIn = 0 ∧
          r'.disputed = false ∧ r'.suspect = r.suspect ∧ (r.due || r.disputed || r.suspect → r'.due = true)

/-! ## Queries and integrity faults -/

/-- On a sound slot memory every query is answered ACCEPTED with the fields of its rule, and changes nothing but the reply path.
The widths and the layout of the fields that R191 does not give are the model's (log 13), as are the order of a store's PLACE tasks
in READ-STORE (log 16) and the reading of the ESTOP level in STATUS as it stands (log 10). -/
def Obligations.QueriesOnlyAnswer : Prop :=
  ∀ (tag : Nat) (s : State), s.Sound →
    exec (.status tag) s = .next (s.reply 0x01 tag .accepted s.statusFields) ∧
    (∀ (k : Fin 4) (first : Nat),
      exec (.readQueue tag k.val first) s = .next (s.reply 0x0B tag .accepted (s.queueFields k first))) ∧
    (∀ k : Fin 4,
      exec (.readBalance tag k.val 0) s =
        .next (s.reply 0x0C tag .accepted ((s.car k).balanceFields (s.car k).loadEntries)) ∧
      exec (.readBalance tag k.val 1) s =
        .next (s.reply 0x0C tag .accepted ((s.car k).balanceFields (s.car k).imbalanceEntries)) ∧
      exec (.readGauge tag k.val) s = .next (s.reply 0x0D tag .accepted ((s.car k).gauge.fields s.gaugeSpan))) ∧
    (∀ a : SlotAddr, (s.car a.carousel).hasSlot a.carrier a.column = true →
      exec (.readSlot tag a.carousel.val a.carrier a.column) s = .next (s.reply 0x14 tag .accepted (s.slotFields a)) ∧
      ∀ code p, s.articleAt code = some p →
        exec (.readStock tag code (some (a.carousel.val, a.carrier, a.column))) s =
          .next (s.reply 0x15 tag .accepted (s.stockFields p (some a)))) ∧
    (∀ code p, s.articleAt code = some p →
      exec (.readStock tag code none) s = .next (s.reply 0x15 tag .accepted (s.stockFields p none))) ∧
    (∀ first, exec (.readStore tag none first) s = .next (s.reply 0x1A tag .accepted s.storeList)) ∧
    (∀ n p r first, 1 ≤ n → n ≤ 255 → s.storeAt n = some p → s.store? p = some r →
      exec (.readStore tag (some n) first) s = .next (s.reply 0x1A tag .accepted (s.storeDetail p r first))) ∧
    (∀ first, exec (.readOrder tag none first) s = .next (s.reply 0x22 tag .accepted (s.orderList first))) ∧
    (∀ code o r first, 1 ≤ code → code ≤ 65535 → s.orderAt code = some o → s.order? o = some r →
      exec (.readOrder tag (some code) first) s = .next (s.reply 0x22 tag .accepted (s.orderDetail o r first))) ∧
    exec (.readLanes tag) s = .next (s.reply 0x29 tag .accepted
      ([.u16 s.laneCap, .u16 s.transitTimeout, .u8 s.eligibleLanes.length, .u8 s.allocatedOrders.length] ++
        listFields ([0, 1, 2, 3, 4, 5, 6, 7].map s.laneFields))) ∧
    (∀ (k : Fin 4) (first : Nat), exec (.readReport tag k.val first) s = .next (s.reply 0x32 tag .accepted
      ([.u16 (s.car k).generation, .u8 s.entries.length] ++ (s.car k).audit.fields ++ [.u16 (s.car k).found] ++
        pageFields 20 first ((s.entriesOf k).map Entry.fields))))

/-- A read that reports a correctable fault writes the record back and counts the correction, without notice. One that reports an
uncorrectable fault repairs the record by the four steps of R16: each reservation is the sum of its tasks; the article is the one
read where it names a record, else that of the oldest store with a PLACE on the slot, else that of the oldest order with a PICK,
else none (a WITHDRAWN task supplies none, log 27; an article read without a week keeps a free week, log 25, so its week is left
open); the count read is clamped between the reservations; and DISPUTED is as read or set by an entry. The record ends SUSPECT and
COUNT_DUE, the carrier's loads are formed afresh, and SLOT-SUSPECT is the first notice where no other record of the carrier is at
fault (log 31 else). STATUS, READ-STOCK and READ-QUEUE leave every record they read sound, and answer what then stands, after the
close of their own event (log 28); widths of their fields that R191 does not give are the model's (log 13). -/
def Obligations.ReadsMeetIntegrityFaults : Prop :=
  (∀ (tag : Nat) (a : SlotAddr) (s : State), (s.car a.carousel).hasSlot a.carrier a.column = true → s.Shaped →
    ((s.slot a).damage = .correctable →
      ∃ u : State, exec (.readSlot tag a.carousel.val a.carrier a.column) s =
          .next (u.reply 0x14 tag .accepted (u.slotFields a)) ∧
        u.corrections = min 65535 (s.corrections + 1) ∧
        u.slot a = { s.slot a with
          held := if (s.slot a).count = 0 ∧ (s.slot a).resIn = 0 then none else (s.slot a).held
          damage := .sound } ∧
        u.link = s.link ∧ s.Kept u) ∧
    (∀ raw, (s.slot a).damage = .uncorrectable raw →
      let onSlot := s.allTasks.filter fun t => t.slot = a && t.state ≠ .withdrawn
      let picks := onSlot.filter fun t => t.isPick
      let places := onSlot.filter fun t => !t.isPick
      let out := (picks.map (·.quantity)).sum
      let inn := (places.map (·.quantity)).sum
      let known : Prop := ∃ p x, raw.article = some p ∧ s.article? p = some x
      ∃ (u : State) (found : Option Held), exec (.readSlot tag a.carousel.val a.carrier a.column) s =
          .next (u.reply 0x14 tag .accepted (u.slotFields a)) ∧
        (∀ p x, raw.article = some p → s.article? p = some x →
          ∃ w, found = some ⟨p, w⟩ ∧ ∀ w', raw.week = some w' → w = w') ∧
        (¬known → ∀ (t : Task) (p : Fin 16) (r : Store), t ∈ places → t.owner = .place p → s.store? p = some r →
          (∀ t' ∈ places, t' ≠ t → s.ownerSeq t < s.ownerSeq t') → found = some ⟨r.article, r.week⟩) ∧
        (¬known → places = [] → ∀ (t : Task) (o : Fin 32) (l : Nat) (r : Order) (x : Line), t ∈ picks →
          t.owner = .pick o l → s.order? o = some r → r.lines[l - 1]? = some x →
          (∀ t' ∈ picks, t' ≠ t → s.ownerSeq t < s.ownerSeq t') → found = some ⟨x.article, raw.week.getD s.week⟩) ∧
        (¬known → places = [] → picks = [] → found = none) ∧
        (let count := if found = none then 0 else max out (min raw.count (s.capacity a - inn))
        let held := if count = 0 ∧ inn = 0 then none else found
        u.slot a = ⟨held, count, out, inn, true, raw.disputed || s.named a, true, .sound⟩ ∧
        ((∀ j r, j < (s.car a.carousel).geometry.s → j ≠ a.column →
            (s.slot ⟨a.carousel, a.carrier, j⟩).damage ≠ .uncorrectable r) →
          (s.raise .slotSuspect (addrFields a ++ [.u16 (s.codeOf held)] ++ optU16 (held.map (·.week)) ++
            [.u8 count])).link.notices <+: u.link.notices)) ∧
        (u.car a.carousel).phys[a.carrier]? = some (u.physLoad a.carousel a.carrier) ∧
        (u.car a.carousel).proj[a.carrier]? = some (u.projLoad a.carousel a.carrier) ∧
        (u.car a.carousel).physPeak = peak (u.car a.carousel).geometry.n (u.car a.carousel).phys ∧
        (u.car a.carousel).projPeak = peak (u.car a.carousel).geometry.n (u.car a.carousel).proj ∧ s.Kept u)) ∧
  ∀ (tag : Nat) (s : State), s.Shaped →
    (∃ u : State, exec (.status tag) s = .next (u.reply 0x01 tag .accepted u.statusFields) ∧ u.Sound ∧ s.Kept u) ∧
    (∀ code p, s.articleAt code = some p → ∃ u : State, exec (.readStock tag code none) s =
      .next (u.reply 0x15 tag .accepted (u.stockFields p none)) ∧ u.Sound ∧ s.Kept u) ∧
    ∀ (k : Fin 4) (first : Nat), ∃ u : State, exec (.readQueue tag k.val first) s =
      .next (u.reply 0x0B tag .accepted (u.queueFields k first)) ∧ s.Kept u ∧
      ∀ t ∈ (s.car k).queue, (s.car t.slot.carousel).hasSlot t.slot.carrier t.slot.column = true →
        (u.slot t.slot).damage = .sound

/-- A request that names a carousel outside A..D, or a lane outside 0..7, is answered BAD-VALUE and changes nothing: every request
with a carousel byte, LOAD-SLOT and READ-STOCK with a slot address, and STORE with a target above 4. So is a query that names a slot
outside the geometry, a part of READ-BALANCE other than the two, a store number outside 1..255 or an order code outside 1..65535;
one that names an article, a store or an order that no record holds is answered NOT-FOUND and changes nothing. -/
def Obligations.BadCarouselsAreRefused : Prop :=
  (∀ (tag : Nat) (s : State),
    (∀ (k : Fin 4) (c j : Nat), (s.car k).hasSlot c j = false →
      exec (.readSlot tag k.val c j) s = .next (s.reply 0x14 tag .badValue []) ∧
      ∀ code p, s.articleAt code = some p →
        exec (.readStock tag code (some (k.val, c, j))) s = .next (s.reply 0x15 tag .badValue [])) ∧
    (∀ code start, (∀ (p : Fin 256) (x : Article), s.articles[p.val] = some x → x.code ≠ code) →
      exec (.readStock tag code start) s = .next (s.reply 0x15 tag .notFound [])) ∧
    (∀ (k : Fin 4) (part : Nat), 2 ≤ part →
      exec (.readBalance tag k.val part) s = .next (s.reply 0x0C tag .badValue [])) ∧
    (∀ n first, n = 0 ∨ 255 < n → exec (.readStore tag (some n) first) s = .next (s.reply 0x1A tag .badValue [])) ∧
    (∀ n first, 1 ≤ n → n ≤ 255 → (∀ p r, s.store? p = some r → r.number ≠ n) →
      exec (.readStore tag (some n) first) s = .next (s.reply 0x1A tag .notFound [])) ∧
    (∀ code first, code = 0 ∨ 65535 < code →
      exec (.readOrder tag (some code) first) s = .next (s.reply 0x22 tag .badValue [])) ∧
    (∀ code first, 1 ≤ code → code ≤ 65535 → (∀ o r, s.order? o = some r → r.code ≠ code) →
      exec (.readOrder tag (some code) first) s = .next (s.reply 0x22 tag .notFound []))) ∧
  ∀ (tag n x y z : Nat) (s : State), 4 ≤ n →
    exec (.home tag n) s = .next (s.reply 0x07 tag .badValue []) ∧
    exec (.close tag n) s = .next (s.reply 0x08 tag .badValue []) ∧
    exec (.resume tag n) s = .next (s.reply 0x09 tag .badValue []) ∧
    exec (.confirmDone tag n) s = .next (s.reply 0x0A tag .badValue []) ∧
    exec (.confirmFault tag n) s = .next (s.reply 0x0A tag .badValue []) ∧
    (∀ cols, exec (.setCarousel tag n x y z cols) s = .next (s.reply 0x03 tag .badValue [])) ∧
    (∀ l, exec (.setLimits tag n l) s = .next (s.reply 0x04 tag .badValue [])) ∧
    exec (.lockZone tag n x y z) s = .next (s.reply 0x05 tag .badValue []) ∧
    exec (.clearZone tag n x) s = .next (s.reply 0x06 tag .badValue []) ∧
    exec (.readQueue tag n x) s = .next (s.reply 0x0B tag .badValue []) ∧
    exec (.readBalance tag n x) s = .next (s.reply 0x0C tag .badValue []) ∧
    exec (.readGauge tag n) s = .next (s.reply 0x0D tag .badValue []) ∧
    (∀ article week count, exec (.loadSlot tag n x y article week count) s = .next (s.reply 0x13 tag .badValue [])) ∧
    exec (.readSlot tag n x y) s = .next (s.reply 0x14 tag .badValue []) ∧
    (∀ code p, s.articleAt code = some p →
      exec (.readStock tag code (some (n, x, y))) s = .next (s.reply 0x15 tag .badValue [])) ∧
    (n ≠ 4 → ∀ code week quantity,
      exec (.store tag code week quantity n) s = .next (s.reply 0x18 tag .badValue [])) ∧
    (∀ f l, exec (.auditSweep tag n f l) s = .next (s.reply 0x30 tag .badValue [])) ∧
    (∀ f l, exec (.auditSuspect tag n f l) s = .next (s.reply 0x30 tag .badValue [])) ∧
    exec (.stopAudit tag n) s = .next (s.reply 0x31 tag .badValue []) ∧
    exec (.readReport tag n x) s = .next (s.reply 0x32 tag .badValue []) ∧
    (∀ ds, exec (.resolve tag n x ds) s = .next (s.reply 0x33 tag .badValue [])) ∧
    (8 ≤ n → exec (.clearLane tag n) s = .next (s.reply 0x28 tag .badValue []))

/-! ## Balance and gauging arithmetic -/

/-- The side signs (R28): +1 on the front run, -1 on the back run, 0 at the turns, and opposite at opposite positions. -/
def Obligations.SideSignsAreOpposite : Prop :=
  ∀ n : Nat, n % 2 = 0 → 8 ≤ n → ∀ p : Nat, p < n →
    (1 ≤ p → p ≤ n / 2 - 1 → sideSign n p = 1) ∧
    (n / 2 + 1 ≤ p → p ≤ n - 1 → sideSign n p = -1) ∧
    (p = 0 ∨ p = n / 2 → sideSign n p = 0) ∧
    sideSign n ((p + n / 2) % n) = -sideSign n p

/-- The imbalance changes sign with half a turn, so the peak over half the offsets is the largest magnitude over all of them, and
one of them reaches it. -/
def Obligations.PeakIsTheLargestImbalance : Prop :=
  ∀ (n : Nat) (loads : List Nat), n % 2 = 0 → 8 ≤ n →
    (∀ r, imbalance n loads (r + n / 2) = -imbalance n loads r) ∧
    (∀ r, r < n → (imbalance n loads r).natAbs ≤ peak n loads) ∧
    ∃ r, r < n / 2 ∧ (imbalance n loads r).natAbs = peak n loads

/-- The count estimate is the number of widths nearest to the height (R154), with its ties, its range and its value at code 0. -/
def Obligations.EstimateIsTheNearestCount : Prop :=
  (∀ h w : Nat, 0 < w → nearestCount h w = (h + w / 2) / w ∧
    2 * (nearestCount h w * w) ≤ 2 * h + w ∧ 2 * h < 2 * (nearestCount h w * w) + w) ∧
  (∀ h w : Nat, h ≤ 2997 → 105 ≤ w → nearestCount h w ≤ 29) ∧
  (∀ e w : Nat, w % 2 = 1 → nearestCount (e * w + (w - 1) / 2) w = e ∧ nearestCount (e * w + (w + 1) / 2) w = e + 1) ∧
  (∀ e w : Nat, 0 < w → w % 2 = 0 → nearestCount (e * w + w / 2) w = e + 1) ∧
  nearestCount 815 205 = 4 ∧ ∀ w span : Nat, 0 < w → heightOf 0 span = 0 ∧ nearestCount 0 w = 0

/-! ## The drives -/

/-- Each state drives the outputs of its carousel as the table of R45 gives them. The station panel (R65) shows a column only in
HANDLING: a steady lamp with the tyres out and in of the column's SHOWN tasks, a flashing lamp where only WITHDRAWN ones stand, and
nothing where none does. -/
def Obligations.OutputsFollowTheState : Prop :=
  (∀ c : Carousel,
    (c.state = .homing → c.outputs = ⟨true, false, true, c.creep⟩) ∧
    (c.state = .moving → c.direction = .forward → c.outputs = ⟨true, false, true, c.creep⟩) ∧
    (c.state = .moving → c.direction = .reverse → c.outputs = ⟨false, true, true, c.creep⟩) ∧
    (c.state ≠ .homing → c.state ≠ .moving → c.outputs = ⟨false, false, false, false⟩)) ∧
  ∀ (c : Carousel) (j : Nat),
    let live := c.queue.filter fun t => t.slot.column = j && t.state = .shown
    let gone := c.queue.filter fun t => t.slot.column = j && t.state = .withdrawn
    (c.state ≠ .presenting ∨ c.phase ≠ .handling → c.panel j = ⟨.off, none⟩) ∧
    (c.state = .presenting → c.phase = .handling →
      (live = [] → gone = [] → c.panel j = ⟨.off, none⟩) ∧
      (live = [] → gone ≠ [] → c.panel j = ⟨.flashing, none⟩) ∧
      (live ≠ [] → c.panel j = ⟨.steady, some (((live.filter fun t => t.isPick).map (·.quantity)).sum,
        ((live.filter fun t => !t.isPick).map (·.quantity)).sum)⟩))

/-- SET-CAROUSEL: a legal geometry for an OFFLINE carousel without open audit or stock in use is held, with empty records, loads
and peaks of 0, the mark armed, no zone lock, offset 0 and the creep flag off, with CREEP-OFF where it was on; nothing else
changes. In any other state, or with an audit open, the reply is WRONG-STATE, with stock in use IN-USE, and for an illegal geometry
BAD-VALUE. That the reply has one byte for each of N, S, A and the capacities is the model's choice (log 13). -/
def Obligations.SetCarouselRebuilds : Prop :=
  ∀ (tag n sc a : Nat) (cols : List (Nat × Nat)) (k : Fin 4) (s : State),
    (geometryOk n sc a cols = false → exec (.setCarousel tag k.val n sc a cols) s =
      .next (s.reply 0x03 tag .badValue [])) ∧
    (geometryOk n sc a cols = true → (s.car k).state ≠ .offline ∨ (s.car k).audit ≠ .none →
      exec (.setCarousel tag k.val n sc a cols) s = .next (s.reply 0x03 tag .wrongState [])) ∧
    (geometryOk n sc a cols = true → (s.car k).state = .offline → (s.car k).audit = .none → (s.car k).inUse = true →
      exec (.setCarousel tag k.val n sc a cols) s = .next (s.reply 0x03 tag .inUse [])) ∧
    (geometryOk n sc a cols = true → (s.car k).state = .offline → (s.car k).audit = .none → (s.car k).inUse = false →
      let v : State := s.modCar k fun c => { c with
        geometry := ⟨n, sc, a, cols.map fun c => ⟨c.1, c.2⟩⟩
        slots := List.replicate (n * sc) ⟨none, 0, 0, 0, false, false, false, .sound⟩
        phys := List.replicate n 0
        proj := List.replicate n 0
        physPeak := 0
        projPeak := 0
        armed := true
        zones := Vector.replicate 4 none
        offset := 0
        known := false
        creep := false }
      exec (.setCarousel tag k.val n sc a cols) s =
        .next ((if (s.car k).creep then v.raise .creepOff [.u8 k.val, .u16 0, .u16 (s.car k).limits.driveLimit]
          else v).reply 0x03 tag .accepted ([.u8 n, .u8 sc, .u8 a] ++ listFields (cols.map fun c => [.u8 c.1, .u8 c.2]))))

/-- SET-LIMITS: the numeric values are clamped, BALANCE-LIMIT last against the clamped DRIVE-LIMIT; the set is applied at once in
IDLE and OFFLINE and staged in every other state, and the reply carries it with its marks (a clamp mark for each of the eight
values is the model's choice, log 13). Limits applied on a sound memory have the arming mark evaluated against the new BALANCE-LIMIT
and creep decided against the new DRIVE-LIMIT, with their notices, in this order, before all others of the event (the model's choice,
log 29); and on an OFFLINE carousel each QUEUED PICK is reviewed against the new mode, threshold and HOLD-TIMEOUT. -/
def Obligations.LimitsAreClampedAndTaken : Prop :=
  (∀ (tag : Nat) (k : Fin 4) (x : LimitArgs) (s : State), 3 ≤ x.starveMode ∨ 2 ≤ x.verify →
    exec (.setLimits tag k.val x) s = .next (s.reply 0x04 tag .badValue [])) ∧
  ∀ (tag : Nat) (k : Fin 4) (x : LimitArgs) (m : StarveMode) (v : Bool) (s : State),
    starveMode? x.starveMode = some m → mark? x.verify = some v →
    let drive := max 100 (min 65000 x.driveLimit)
    let l : Limits := ⟨drive, max 100 (min drive x.balanceLimit), max 100 (min 20000 x.carrierMax),
      max 200 (min 10000 x.pulseTimeout), m, min 15 x.starveLimit, max 1000 (min 60000 x.holdTimeout), v⟩
    let c := s.car k
    let above : Bool := l.balanceLimit < c.projPeak
    let creep : Bool := l.driveLimit < c.physPeak
    l.InRange ∧
    (c.state = .idle ∨ c.state = .offline →
      ∃ u : State, exec (.setLimits tag k.val x) s = .next (u.reply 0x04 tag .accepted
          (l.fields ++ [.mark false] ++ clampMarks x l)) ∧
        (u.car k).limits = l ∧ (u.car k).staged = none ∧
        (s.modCar k fun c => { c with limits := l, staged := none }).Onward u ∧
        (s.Sound → (u.car k).armed = !above ∧ (u.car k).creep = creep) ∧
        (let s1 := if c.armed && above then s.raise .balanceHigh
            [.u8 k.val, .u16 (min c.projPeak 65535), .u16 l.balanceLimit, .u16 (min c.physPeak 65535)] else s
        let s2 := if c.creep = creep then s1 else s1.raise (if creep then .creepOn else .creepOff)
            [.u8 k.val, .u16 (min c.physPeak 65535), .u16 l.driveLimit]
        s2.link.notices <+: u.link.notices) ∧
        (c.state = .offline → (c.queue.map (·.id)).Nodup →
          (∀ t ∈ c.queue, t.isPick = false ∨ t.state ≠ .queued → t.starving = none) →
          (c.queue.map fun t =>
            if t.isPick = false ∨ t.state ≠ .queued then t
            else if m = .off ∨ t.skip < max 1 l.starveLimit then { t with starving := none }
            else if l.holdTimeout ≤ s.schedClock - t.starving.getD s.schedClock then { t with skip := 0, starving := none }
            else { t with starving := some (t.starving.getD s.schedClock) }) <+: (u.car k).queue)) ∧
    (c.state ≠ .idle → c.state ≠ .offline →
      exec (.setLimits tag k.val x) s = .next ((s.modCar k fun c => { c with staged := some l }).reply 0x04 tag .accepted
        (l.fields ++ [.mark true] ++ clampMarks x l)))

/-- HOME: a configured carousel in OFFLINE, IDLE or FAULT begins homing while the ESTOP input as it stands is not asserted (how the
level is read is the model's, log 10), with the creep flag decided, CREEP-ON or CREEP-OFF sent where that changes it and no other
notice, and the supervision timer at PULSE-TIMEOUT, or four times it in creep. Otherwise the reply is WRONG-STATE and nothing
changes. -/
def Obligations.HomeBeginsHoming : Prop :=
  ∀ (tag : Nat) (k : Fin 4) (s : State),
    let taken : Prop := (s.car k).geometry.n ≠ 0 ∧ s.estopLevel = false ∧
      ((s.car k).state = .offline ∨ (s.car k).state = .idle ∨ (s.car k).state = .fault)
    (taken → ∃ u : State, exec (.home tag k.val) s = .next (u.reply 0x07 tag .accepted []) ∧
      s.HomingBegun k u) ∧
    (¬taken → exec (.home tag k.val) s = .next (s.reply 0x07 tag .wrongState []))

/-- CLOSE: an IDLE carousel with no queued or unreleased task, no COUNT_DUE slot and no audit becomes OFFLINE with its position
unknown, and nothing else changes. Otherwise the reply is WRONG-STATE and nothing changes. -/
def Obligations.CloseTakesAnIdleCarouselOffline : Prop :=
  ∀ (tag : Nat) (k : Fin 4) (s : State),
    let idleOfWork : Prop := (s.car k).state = .idle ∧ (s.car k).queue = [] ∧
      (∀ t ∈ s.waiting, t.slot.carousel ≠ k) ∧ (∀ r ∈ (s.car k).slots, r.due = false) ∧ (s.car k).audit = .none
    (idleOfWork → exec (.close tag k.val) s =
      .next ((s.modCar k fun c => { c with state := .offline, known := false }).reply 0x08 tag .accepted [])) ∧
    (¬idleOfWork → exec (.close tag k.val) s = .next (s.reply 0x08 tag .wrongState []))

/-- RESUME: refused while the ESTOP input as it stands is asserted (how the level is read is the model's, log 10) and in any state
but STOPPED and FAULT. From FAULT, or from STOPPED with the position not known, homing begins. From STOPPED with the position known
the carousel goes to IDLE, its staged limits, where it has some, applied there, and the event closes from that state with a retry
of PENDING orders; its offset and position stay, and it ends IDLE, or MOVING or PRESENTING on work it then took. It stays IDLE, and
nothing else changes, when there is nothing to apply and nothing to do. Where a carrier away from the opening is then chosen a motion
starts toward it the shorter way, with the notice of the creep decision alone. The reply's mark is 0 for IDLE and 1 for HOMING (the
model's choice, log 13). -/
def Obligations.ResumeRestartsACarousel : Prop :=
  ∀ (tag : Nat) (k : Fin 4) (s : State),
    (s.estopLevel = true ∨ ((s.car k).state ≠ .stopped ∧ (s.car k).state ≠ .fault) →
      exec (.resume tag k.val) s = .next (s.reply 0x09 tag .wrongState [])) ∧
    (s.estopLevel = false → (s.car k).state = .fault ∨ ((s.car k).state = .stopped ∧ (s.car k).known = false) →
      ∃ u : State, exec (.resume tag k.val) s = .next (u.reply 0x09 tag .accepted [.mark true]) ∧
        s.HomingBegun k u) ∧
    (s.estopLevel = false → (s.car k).state = .stopped → (s.car k).known = true →
      let idle : State := s.modCar k fun c => { c with state := .idle }
      let entered : State := match (s.car k).staged with
        | none => idle
        | some l => idle.applyLimits k l
      let limits : Limits := (s.car k).staged.getD (s.car k).limits
      (entered.car k).state = .idle ∧ (entered.car k).limits = limits ∧ (entered.car k).staged = none ∧
      ∃ u : State, u = entered.close true s ∧
        exec (.resume tag k.val) s = .next (u.reply 0x09 tag .accepted [.mark false]) ∧
        ((u.car k).state = .idle ∨ (u.car k).state = .moving ∨ (u.car k).state = .presenting) ∧
        (u.car k).limits = limits ∧ (u.car k).staged = none ∧ (u.car k).offset = (s.car k).offset ∧
        (u.car k).known = true ∧ (u.car k).cause = (s.car k).cause ∧ s.Onward u) ∧
    (s.estopLevel = false → (s.car k).state = .stopped → (s.car k).known = true → (s.car k).staged = none →
      (s.car k).queue = [] → (∀ r ∈ (s.car k).slots, r.due = false) → (∀ o r, s.order? o = some r → r.state ≠ .pending) →
      exec (.resume tag k.val) s =
        .next ((s.modCar k fun c => { c with state := .idle }).reply 0x09 tag .accepted [.mark false])) ∧
    ∀ carrier, s.estopLevel = false → (s.car k).state = .stopped → (s.car k).known = true → (s.car k).staged = none →
      (∀ o r, s.order? o = some r → r.state ≠ .pending) → (s.car k).geometry.n ≠ 0 →
      let idle : State := s.modCar k fun c => { c with state := .idle }
      idle.select k = some carrier → (s.car k).stepsTo carrier ≠ 0 →
      ∃ u : State, exec (.resume tag k.val) s = .next (u.reply 0x09 tag .accepted [.mark false]) ∧
        idle.MotionBegun k carrier u

/-- The emergency stop: every carousel in HOMING, IDLE, MOVING or PRESENTING becomes STOPPED with its supervision, target, remaining
steps, presented carrier and phase removed and its offset and position kept; the tasks SHOWN in HANDLING go back to QUEUED and the
WITHDRAWN ones go, a measurement in progress is abandoned, the handled slots not yet verified become COUNT_DUE, and on a sound memory
counts and reservations stay and one STOPPED notice for each comes before all others, the lowest carousel first (this order is the
model's choice, log 34). One in OFFLINE, FAULT or STOPPED keeps its drive, presentation,
limits and Gauge Unit, and its queue is only added to at the tail. The held level is what the edge brings (log 10): the releasing
edge changes it alone. The offset takes one byte in STOPPED (the model's choice, log 13). -/
def Obligations.EmergencyStopStopsEveryCarousel : Prop :=
  ∀ s : State,
    let running (k : Fin 4) : Prop := (s.car k).state = .homing ∨ (s.car k).state = .idle ∨ (s.car k).state = .moving ∨
      (s.car k).state = .presenting
    let stop (k : Fin 4) (x : State) : State :=
      if (s.car k).state = .homing ∨ (s.car k).state = .idle ∨ (s.car k).state = .moving ∨ (s.car k).state = .presenting
      then x.raise .stopped
        ([.u8 k.val, .u8 (s.car k).state.code, .u8 (s.car k).offset] ++ optU8 (s.car k).presented)
      else x
    (∃ t : State, exec .estopAssert s = .next t ∧ t.estop = true ∧ { s with estop := true }.Kept t ∧
      (s.Sound → (stop 3 (stop 2 (stop 1 (stop 0 s)))).link.notices <+: t.link.notices) ∧
      ∀ k, (t.car k).offset = (s.car k).offset ∧ (t.car k).known = (s.car k).known ∧
        (running k →
          (t.car k).state = .stopped ∧ (t.car k).supervision = none ∧ (t.car k).target = none ∧
          (t.car k).remaining = 0 ∧ (t.car k).presented = none ∧ (t.car k).phase = .none) ∧
        (running k → s.EndedEarly t k .estop) ∧
        ((s.car k).state = .offline ∨ (s.car k).state = .fault ∨ (s.car k).state = .stopped →
          (t.car k).state = (s.car k).state ∧ (t.car k).cause = (s.car k).cause ∧
          (t.car k).supervision = (s.car k).supervision ∧
          ((s.allTasks.map (·.id)).Nodup → (s.car k).Still (t.car k)))) ∧
    exec .estopRelease s = .next { s with estop := false }

/-- A PULSE of a running carousel: HOMING counts it and moves the offset forward, until the count reaches N+3 and the homing fails;
MOVING moves the offset in the direction of the run and takes one of the remaining steps, both restarting the supervision timer.
The last step brings the presentation of the fetched carrier: the drive is stopped, the QUEUED PICKs on other carriers are passed
over (a skip count of at most 15, and starving from the threshold), and on a sound memory the carousel ends COUNTING the lowest
COUNT_DUE slot where counts are permitted, else HANDLING with the eligible tasks of the carrier SHOWN, else at the end of the
presentation. In PRESENTING the carousel faults with cause DRIFT, and the presentation is ended early: SHOWN tasks go back to QUEUED
and WITHDRAWN ones go, a measurement is abandoned, and the handled slots not yet verified become COUNT_DUE. A fault sends
CAROUSEL-FAULT, where the offset takes one byte (the model's choice, log 13). -/
def Obligations.PulsesCountPitches : Prop :=
  ∀ (k : Fin 4) (s : State), (s.car k).geometry.n ≠ 0 →
    let n := (s.car k).geometry.n
    let r := match (s.car k).direction with
      | .forward => ((s.car k).offset + 1) % n
      | .reverse => subMod n (s.car k).offset 1
    let again := (s.car k).supervision.map fun v => { v with left := v.period }
    ((s.car k).state = .homing → (s.car k).homingCount + 1 < n + 3 → exec (.pulse k) s =
      .next (s.modCar k fun c => { c with
        homingCount := c.homingCount + 1, offset := (c.offset + 1) % n, supervision := again })) ∧
    ((s.car k).state = .homing → n + 3 ≤ (s.car k).homingCount + 1 →
      ∃ t, exec (.pulse k) s = .next t ∧ s.Faulted k .homeFail t ∧ s.Kept t) ∧
    ((s.car k).state = .moving → 2 ≤ (s.car k).remaining → exec (.pulse k) s =
      .next (s.modCar k fun c => { c with offset := r, remaining := c.remaining - 1, supervision := again })) ∧
    ((s.car k).state = .moving → (s.car k).remaining = 1 →
      let carrier := (s.car k).presented.getD 0
      let l := (s.car k).limits
      let passed := (s.car k).queue.map fun t =>
        if t.isPick = true ∧ t.state = .queued ∧ t.slot.carrier ≠ carrier then
          { t with
            skip := min 15 (t.skip + 1)
            starving := if t.starving = none ∧ l.starveMode ≠ .off ∧ max 1 l.starveLimit ≤ min 15 (t.skip + 1)
              then some s.schedClock else t.starving }
        else t
      let entered : State := s.modCar k fun c => { c with
        offset := r, state := .presenting, target := none, remaining := 0, presented := some carrier, phase := .counting
        supervision := none, queue := passed }
      let due := (List.range (s.car k).geometry.s).filter fun j => (s.slot ⟨k, carrier, j⟩).due
      ∃ t, exec (.pulse k) s = .next t ∧ (t.car k).offset = r ∧ (t.car k).known = (s.car k).known ∧ s.Kept t ∧
        (s.Sound →
          (∀ j rest, due = j :: rest → entered.permitted k carrier = true →
            (t.car k).state = .presenting ∧ (t.car k).phase = .counting ∧ (t.car k).presented = some carrier ∧
            (t.car k).target = none ∧ (t.car k).remaining = 0 ∧ (t.car k).supervision = none ∧
            (t.car k).gauge = { (s.car k).gauge with
              state := .settling
              measure := some ⟨⟨k, carrier, j⟩, .count⟩
              column := some j
              inFlight := if (s.car k).gauge.inFlight = .orphaned then .orphaned else .first } ∧
            passed <+: (t.car k).queue) ∧
          (due = [] ∨ entered.permitted k carrier = false →
            let shows (x : Task) : Bool := x.slot.carrier = carrier && entered.eligible x
            ((∃ x ∈ passed, shows x = true) →
              (t.car k).state = .presenting ∧ (t.car k).phase = .handling ∧ (t.car k).presented = some carrier ∧
              (t.car k).target = none ∧ (t.car k).remaining = 0 ∧ (t.car k).supervision = none ∧
              (passed.map fun x => if shows x = false then x
                else if x.isPick then { x with state := .shown, skip := 0, starving := none }
                else { x with state := .shown }) <+: (t.car k).queue) ∧
            ((∀ x ∈ passed, shows x = false) → t = (entered.endPresentation k).close false s)))) ∧
    ((s.car k).state = .presenting →
      ∃ t, exec (.pulse k) s = .next t ∧ s.Faulted k .drift t ∧ (t.car k).offset = r ∧ s.Kept t)

/-- A HOME edge of a carousel in use: in HOMING it completes the homing with offset 0 and position known, raises HOMED and enters
IDLE, where staged limits are applied; in MOVING it corrects a wrong offset to 0, raises POSITION-SLIP (its encoding is the model's,
log 13) and recomputes the steps in the direction of the run, 0 steps bringing the presentation; in PRESENTING a wrong offset
faults with cause DRIFT, with CAROUSEL-FAULT (its offset in one byte, log 13) and the early end of the presentation; with offset 0,
MOVING and PRESENTING are left as they are. -/
def Obligations.HomeEdgesCorrectTheOffset : Prop :=
  ∀ (k : Fin 4) (s : State), (s.car k).geometry.n ≠ 0 →
    let n := (s.car k).geometry.n
    let held := (s.car k).offset
    let slip := slipOf n held
    let slipFields : List Field := [.u8 k.val, .u8 0, .u8 held, .mark (slip < 0), .u8 slip.natAbs]
    ((s.car k).state = .homing →
      let homed : State := (s.raise .homed [.u8 k.val, .u8 (s.car k).homingCount]).modCar k fun c => { c with
        offset := 0, known := true, supervision := none, state := .idle }
      let limits : Limits := (s.car k).staged.getD (s.car k).limits
      ∃ t, exec (.homeEdge k) s = .next t ∧
        t = (match (s.car k).staged with
          | none => homed
          | some l => homed.applyLimits k l).close true s ∧
        (t.car k).offset = 0 ∧ (t.car k).known = true ∧ (t.car k).limits = limits ∧ (t.car k).staged = none ∧
        ((t.car k).state = .idle ∨ (t.car k).state = .moving ∨ (t.car k).state = .presenting) ∧
        (s.raise .homed [.u8 k.val, .u8 (s.car k).homingCount]).link.notices <+: t.link.notices ∧ s.Kept t) ∧
    ((s.car k).state = .moving ∨ (s.car k).state = .presenting → held = 0 → exec (.homeEdge k) s = .next s) ∧
    (∀ g, (s.car k).state = .moving → held ≠ 0 → (s.car k).target = some g → g < n →
      let steps := match (s.car k).direction with
        | .forward => g
        | .reverse => (n - g) % n
      let corrected : State := (s.raise .positionSlip slipFields).modCar k fun c => { c with
        offset := 0, remaining := steps }
      (steps ≠ 0 → exec (.homeEdge k) s = .next corrected) ∧
      (steps = 0 → ∃ t, exec (.homeEdge k) s = .next t ∧
        t = (corrected.present k ((s.car k).presented.getD 0)).close false s ∧ (t.car k).offset = 0 ∧
        (s.raise .positionSlip slipFields).link.notices <+: t.link.notices ∧ s.Kept t)) ∧
    ((s.car k).state = .presenting → held ≠ 0 →
      ∃ t, exec (.homeEdge k) s = .next t ∧ s.Faulted k .drift t ∧ (t.car k).offset = 0 ∧ s.Kept t) ∧
    (slip = if held ≤ n / 2 then (held : Int) else (held : Int) - (n : Int))

/-- Edges taken at rest (R57): discarded in OFFLINE and FAULT; a PULSE in STOPPED moves the offset without notice, and in IDLE with
POSITION-SLIP of kind DRIFT (its sign and the encoding of the fields are the model's choice, logs 13 and 14); a HOME edge in
IDLE or STOPPED corrects an offset other than 0 with POSITION-SLIP of kind HOME. -/
def Obligations.EdgesTakenAtRest : Prop :=
  ∀ (k : Fin 4) (s : State),
    let held := (s.car k).offset
    let slip := slipOf (s.car k).geometry.n held
    let r := match (s.car k).direction with
      | .forward => (held + 1) % (s.car k).geometry.n
      | .reverse => subMod (s.car k).geometry.n held 1
    ((s.car k).state = .offline ∨ (s.car k).state = .fault →
      exec (.pulse k) s = .next s ∧ exec (.homeEdge k) s = .next s) ∧
    ((s.car k).state = .stopped → exec (.pulse k) s = .next (s.modCar k fun c => { c with offset := r })) ∧
    ((s.car k).state = .idle → exec (.pulse k) s =
      .next ((s.modCar k fun c => { c with offset := r }).raise .positionSlip
        [.u8 k.val, .u8 1, .u8 held, .mark false, .u8 1])) ∧
    ((s.car k).state = .idle ∨ (s.car k).state = .stopped →
      (held = 0 → exec (.homeEdge k) s = .next s) ∧
      (held ≠ 0 → exec (.homeEdge k) s =
        .next ((s.raise .positionSlip [.u8 k.val, .u8 0, .u8 held, .mark (slip < 0), .u8 slip.natAbs]).modCar k
          fun c => { c with offset := 0 })))

/-- The expiry of a running supervision timer faults its carousel with cause STALL, at the time of the expiry (time moves there: the
model's choice, log 2), with the offset kept and CAROUSEL-FAULT sent, where the offset takes one byte (the model's choice, log 13).
A stopped timer does not expire (log 3). -/
def Obligations.PulseTimerExpiryStalls : Prop :=
  ∀ (k : Fin 4) (s : State),
    (∀ v, (s.car k).supervision = some v → ∃ t : State, exec (.pulseTimerExpiry k) s = .next t ∧
      (s.advance v.left).Faulted k .stall t ∧ (t.car k).offset = (s.car k).offset ∧ t.schedClock = s.schedClock + v.left ∧
      t.laneClock = s.laneClock + v.left ∧ (s.advance v.left).Kept t) ∧
    ((s.car k).supervision = none → exec (.pulseTimerExpiry k) s = .next s)

/-- A DONE confirmation in HANDLING, by request or by key: the count of each sound record moves by the SHOWN tasks of its slot, a
PICK down and a PLACE up, in queue arrival order; a WITHDRAWN task moves none. The reply carries the carrier and the number of tasks
of the shown set. One SHOWN PICK alone dispatches its tyres to the lane of its PICKING order, whose transit timer starts while tyres
are on the way, and its line counts them, their week and the confirmed entry; one SHOWN PLACE alone is confirmed at its store, which
is STORED and freed once its quantity is confirmed. In a lawful state the whole shown set leaves the queue, the tasks that were not
shown stand in their order at its head, with only state, skip count and starving to be changed by a presentation that follows, and
the reservations of each slot fall by the SHOWN tasks there, but for what a retry of PENDING orders then takes. With VERIFY on the
phase becomes VERIFYING with the lowest handled column measured; with VERIFY off the carousel enters IDLE. -/
def Obligations.DoneMovesTheCounts : Prop :=
  ∀ (tag : Nat) (k : Fin 4) (s : State), (s.car k).handling = true → s.Sound →
    let shown := (s.car k).queue.filter fun t => t.state = .shown || t.state = .withdrawn
    ∃ u : State, exec (.confirmDone tag k.val) s =
        .next (u.reply 0x0A tag .accepted [.u8 ((s.car k).presented.getD 0), .u8 shown.length]) ∧
      exec (.doneKey k) s = .next u ∧ s.Kept u ∧
      (∀ (j : Fin 4) (i : Nat) (r : Slot), (s.car j).slots[i]? = some r → ∃ r' : Slot, (u.car j).slots[i]? = some r' ∧
        r'.count = (shown.filter fun t => t.state = .shown && t.slot.carousel = j &&
            (s.car j).index t.slot.carrier t.slot.column = i).foldl
          (fun n t => if t.isPick then n - t.quantity else n + t.quantity) r.count) ∧
      (∀ (t : Task) (o : Fin 32) (n : Nat) (r : Order) (l : Fin 8) (x : Line), shown = [t] → t.state = .shown →
        t.owner = .pick o n → s.order? o = some r → r.state = .picking → r.lane = some l → r.lines[n - 1]? = some x →
        s.Paired → (s.lane l).state = .filling → (s.lane l).arrived < (s.lane l).dispatched + t.quantity →
        let y := s.lane l
        u.lane l = { y with
          dispatched := y.dispatched + t.quantity
          expected := if y.short || y.orphan then y.expected + t.quantity else y.expected
          timer := some (s.laneClock + s.transitTimeout * 1000) } ∧
        u.order? o = some { r with lines := r.lines.set (n - 1) { x with
          dispatched := x.dispatched + t.quantity
          span := some (match x.span with
            | none => (t.week, t.week)
            | some w => (min w.1 t.week, max w.2 t.week))
          confirmed := x.confirmed ++ [⟨t.id, t.slot, t.quantity, t.week⟩] } }) ∧
      (∀ (t : Task) (p : Fin 16) (r : Store), shown = [t] → t.state = .shown → t.owner = .place p →
        s.store? p = some r → (∀ x ∈ s.allTasks, x.ofStore p = true → x.state ≠ .withdrawn) →
        let es := r.placements.map fun e => if e.slot = t.slot then { e with confirmed := e.confirmed + t.quantity } else e
        let confirmed := (es.map (·.confirmed)).sum
        (confirmed ≠ r.quantity → u.store? p = some { r with placements := es }) ∧
        (confirmed = r.quantity → u.store? p = none ∧
          (s.raise .stored ([.u8 r.number, .u16 (s.codeOf (some ⟨r.article, r.week⟩)), .u16 r.week, .u8 r.quantity] ++
            listFields (es.map fun e => addrFields e.slot ++ [.u8 e.confirmed]))).link.notices <+: u.link.notices)) ∧
      (s.Shaped → s.Lawful →
        (∀ t ∈ shown, ∀ x ∈ u.allTasks, x.id ≠ t.id) ∧
        (∀ (i : Nat) (t : Task), ((s.car k).queue.filter fun t => t.state = .queued)[i]? = some t →
          ∃ x : Task, (u.car k).queue[i]? = some x ∧
            x = { t with state := x.state, skip := x.skip, starving := x.starving }) ∧
        ∀ a : SlotAddr, (s.car a.carousel).hasSlot a.carrier a.column = true →
          let applied (pick : Bool) : Nat :=
            ((shown.filter fun t => t.state = .shown && t.slot = a && t.isPick = pick).map (·.quantity)).sum
          (u.slot a).resIn = (s.slot a).resIn - applied false ∧ (s.slot a).resOut - applied true ≤ (u.slot a).resOut ∧
          ((∀ o r, s.order? o = some r → r.state ≠ .pending) → (u.slot a).resOut = (s.slot a).resOut - applied true)) ∧
      let handled := (List.range (s.car k).geometry.s).filter fun j => shown.any fun t => t.slot.column = j
      (∀ j rest, handled = j :: rest → (s.car k).limits.verify = true →
        s.Measures u k .verifying j .verify ∧ (u.car k).unverified = handled) ∧
      (handled = [] ∨ (s.car k).limits.verify = false → s.EnteredIdle u k)

/-- A FAULT confirmation in HANDLING, by request or by key, moves no count and no reservation, and sets COUNT_DUE the slot of every
task of the shown set, SHOWN or WITHDRAWN. No slot is verified: the carousel enters IDLE. In a lawful state the WITHDRAWN tasks are
gone, and the others stand in their order at the head of the queue, the SHOWN ones QUEUED, with only skip counts and starving to be
changed by a presentation that follows. -/
def Obligations.FaultSendsTheSlotsForCount : Prop :=
  ∀ (tag : Nat) (k : Fin 4) (s : State), (s.car k).handling = true → s.Sound →
    let shown := (s.car k).queue.filter fun t => t.state = .shown || t.state = .withdrawn
    ∃ u : State, exec (.confirmFault tag k.val) s =
        .next (u.reply 0x0A tag .accepted [.u8 ((s.car k).presented.getD 0), .u8 shown.length]) ∧
      exec (.faultKey k) s = .next u ∧ s.Kept u ∧ s.EnteredIdle u k ∧
      (∀ (j : Fin 4) (i : Nat) (r : Slot), (s.car j).slots[i]? = some r → ∃ r' : Slot, (u.car j).slots[i]? = some r' ∧
        r'.count = r.count ∧ r'.resIn = r.resIn ∧ r'.resOut = r.resOut ∧ r'.disputed = r.disputed ∧
        r'.suspect = r.suspect ∧ (r.due = true → r'.due = true) ∧
        ∀ t ∈ shown, t.slot.carousel = j → (s.car j).index t.slot.carrier t.slot.column = i → r'.due = true) ∧
      (s.Shaped → s.Lawful →
        (∀ t ∈ shown, t.state = .withdrawn → ∀ x ∈ u.allTasks, x.id ≠ t.id) ∧
        ∀ (i : Nat) (t : Task), ((s.car k).queue.filter fun t => t.state ≠ .withdrawn)[i]? = some t →
          ∃ x : Task, (u.car k).queue[i]? = some x ∧
            x = { t with state := x.state, skip := x.skip, starving := x.starving } ∧ (t.state = .shown → x.state = .queued))

/-- Outside PRESENTING in phase HANDLING the keys are discarded and CONFIRM is answered WRONG-STATE. -/
def Obligations.ConfirmationsNeedHandling : Prop :=
  ∀ (tag : Nat) (k : Fin 4) (s : State), (s.car k).state ≠ .presenting ∨ (s.car k).phase ≠ .handling →
    exec (.doneKey k) s = .next s ∧ exec (.faultKey k) s = .next s ∧
    exec (.confirmDone tag k.val) s = .next (s.reply 0x0A tag .wrongState []) ∧
    exec (.confirmFault tag k.val) s = .next (s.reply 0x0A tag .wrongState [])

/-- The expiry of a starving PICK's hold timer sets its skip count 0, ends its starving and raises PICK-STARVED with the time
starved, at the time of the expiry (time moves there: the model's choice, log 2). A task that does not starve has no timer (log 3).
The selection takes the carrier of the oldest starving PICK, where it has work and the mode is not OFF, and else the carrier with
work of the smallest travel, the forward one on a tie. The choice of a carrier starts a motion toward it the shorter way, with the
notice of the creep decision alone, and one that stands at the opening is presented at once. -/
def Obligations.HoldTimerExpiryEndsStarving : Prop :=
  (∀ (k : Fin 4) (place : Nat) (s : State),
    (∀ (t : Task) (since : Nat), (s.car k).queue[place]? = some t → t.starving = some since →
      let dt := since + (s.car k).limits.holdTimeout - s.schedClock
      ∃ u : State, exec (.holdTimerExpiry k place) s = .next u ∧ u.schedClock = s.schedClock + dt ∧
        (s.advance dt).Kept u ∧
        (s.raise .pickStarved ([.u8 k.val] ++ addrFields t.slot ++ [.u16 (s.orderCode t), .u8 t.line, .u8 t.quantity,
          .u24 (s.schedClock + dt - since), .u8 (s.car k).state.code])).link.notices <+: u.link.notices ∧
        ((s.car k).state ≠ .idle → (u.car k).state = (s.car k).state ∧ (u.car k).target = (s.car k).target ∧
          ((s.car k).queue.map fun x => if x.id = t.id then { x with skip := 0, starving := none } else x) <+:
            (u.car k).queue)) ∧
    ((∀ t, (s.car k).queue[place]? = some t → t.starving = none) → exec (.holdTimerExpiry k place) s = .next s)) ∧
  ∀ (k : Fin 4) (s : State),
    let n := (s.car k).geometry.n
    let forward (c : Nat) : Nat := subMod n (subMod n (s.car k).geometry.a c) (s.car k).offset
    let travel (c : Nat) : Nat := min (forward c) (n - forward c)
    let oldest := (s.car k).queue.find? fun t => t.starving.isSome
    (∀ t, (s.car k).limits.starveMode ≠ .off → oldest = some t → s.hasWork k t.slot.carrier = true →
      s.select k = some t.slot.carrier) ∧
    ((s.car k).limits.starveMode = .off ∨ (∀ t, oldest = some t → s.hasWork k t.slot.carrier = false) →
      (∀ c, s.select k = some c → c < n ∧ s.hasWork k c = true ∧
        ∀ c', c' < n → c' ≠ c → s.hasWork k c' = true →
          travel c < travel c' ∨ (travel c = travel c' ∧ forward c = travel c)) ∧
      (s.select k = none → ∀ c, c < n → s.hasWork k c = false)) ∧
    (n ≠ 0 → ∀ carrier, (forward carrier ≠ 0 → s.MotionBegun k carrier (s.travelTo k carrier)) ∧
      (forward carrier = 0 → s.travelTo k carrier = s.present k carrier))

/-- A completion is taken by the conversion it ends: ORPHANED is discarded, and a waiting measurement's FIRST is started; FIRST is
discarded and SECOND started; SECOND forms the estimate of the measured slot, clamped to the column's capacity with the OVERHEIGHT
mark, and holds it as the last result. A COUNT result that agrees clears COUNT_DUE and DISPUTED; one that does not, or of a SUSPECT
or named slot, enters the slot in the list in place of an older entry, DISPUTED and no longer due, and with the list full leaves it
due; a slot no longer due is left as it is. A VERIFY result that disagrees enters it too, and with the list full sets it DISPUTED
and due. An entry raises the generation and the entries found, and the 64th raises COUNTS-PAUSED, where the fill takes one byte (the
model's choice, log 13). Then the presentation goes on: in COUNTING the next COUNT_DUE column above is measured while counts are
permitted, and else HANDLING begins with the eligible tasks of the carrier SHOWN, or, with none, the carousel enters IDLE; in
VERIFYING the next handled column is measured, and after the last the carousel enters IDLE. A completion with no conversion in
flight changes nothing (the model's choice, log 3). -/
def Obligations.CompletionsEndConversions : Prop :=
  ∀ (k : Fin 4) (code : Nat) (s : State),
    ((s.car k).gauge.inFlight = .none → exec (.conversionComplete k code) s = .next s) ∧
    ((s.car k).gauge.inFlight = .orphaned → (s.car k).gauge.state = .settling → exec (.conversionComplete k code) s =
      .next (s.modCar k fun c => { c with gauge := { c.gauge with inFlight := .first } })) ∧
    ((s.car k).gauge.inFlight = .orphaned → (s.car k).gauge.state = .idle → exec (.conversionComplete k code) s =
      .next (s.modCar k fun c => { c with gauge := { c.gauge with inFlight := .none } })) ∧
    ((s.car k).gauge.inFlight = .first → exec (.conversionComplete k code) s =
      .next (s.modCar k fun c => { c with gauge := { c.gauge with inFlight := .second, state := .converting } })) ∧
    (∀ m : Measurement, (s.car k).gauge.inFlight = .second → (s.car k).gauge.measure = some m → s.Sound → code ≤ 1023 →
      let h := code * s.gaugeSpan / 1024
      let w := s.gaugeWidth m.slot
      let e := (h + w.1 / 2) / w.1
      let cap := s.capacity m.slot
      ∃ t : State, exec (.conversionComplete k code) s = .next t ∧ s.Kept t ∧
        (t.car k).gauge.last = some ⟨m.slot, m.purpose,
          .completed ⟨code, h, s.gaugeSpan, w.1, w.2, cap, min e cap, cap < e⟩⟩ ∧
        (m.slot.carousel = k → (s.car k).hasSlot m.slot.carrier m.slot.column = true → s.Shaped →
          let slot := s.slot m.slot
          let new := t.slot m.slot
          let named : Bool := s.entries.any fun x => x.slot = m.slot
          let listed (origin : Origin) : Prop :=
            t.entries = (s.entries.filter fun x => x.slot ≠ m.slot) ++
              [⟨m.slot, origin, slot.held.map fun x => (s.codeOf (some x), x.week), slot.count, min e cap, cap < e⟩] ∧
            new.disputed = true ∧
            (t.car k).generation = ((s.car k).generation + if named then 2 else 1) % 65536 ∧
            (t.car k).found = (if (s.car k).audit = .none then (s.car k).found else min 65535 ((s.car k).found + 1)) ∧
            (named = false → s.entries.length = 63 → (s.raise .countsPaused
              ([.u8 64, .u8 k.val] ++ addrFields m.slot)).link.notices <+: t.link.notices)
          let kept : Prop := t.entries = s.entries ∧ (t.car k).generation = (s.car k).generation ∧
            (t.car k).found = (s.car k).found
          new.count = slot.count ∧ new.suspect = slot.suspect ∧
          (m.purpose = .count → slot.due = false → kept ∧ new.disputed = slot.disputed) ∧
          (m.purpose = .count → slot.due = true →
            (min e cap = slot.count → slot.suspect = false → named = false →
              kept ∧ new.disputed = false ∧ ((s.car k).audit = .none → new.due = false)) ∧
            (min e cap ≠ slot.count ∨ slot.suspect = true ∨ named = true →
              (s.entries.length < 64 ∨ named = true →
                listed (if slot.suspect then .suspect else if slot.held = none ∧ 0 < min e cap then .phantom else .sweep) ∧
                new.due = false) ∧
              (64 ≤ s.entries.length → named = false → kept ∧ new.disputed = true ∧ new.due = true))) ∧
          (m.purpose = .verify →
            (min e cap = slot.count → kept ∧ new.disputed = slot.disputed) ∧
            (min e cap ≠ slot.count → s.entries.length < 64 ∨ named = true → listed .verify) ∧
            (min e cap ≠ slot.count → 64 ≤ s.entries.length → named = false →
              kept ∧ new.disputed = true ∧ new.due = true)) ∧
          ((s.car k).state = .presenting → (s.car k).presented = some m.slot.carrier →
            (m.purpose = .count → (s.car k).phase = .counting →
              let due := (List.range (s.car k).geometry.s).filter fun j =>
                m.slot.column < j && (s.slot ⟨k, m.slot.carrier, j⟩).due
              let permitted := { s with entries := t.entries }.permitted k m.slot.carrier
              (∀ j rest, due = j :: rest → permitted = true →
                s.Measures t k .counting j .count ∧ (s.car k).queue <+: (t.car k).queue) ∧
              ((due = [] ∨ permitted = false) →
                (∀ x ∈ (s.car k).queue, (s.car x.slot.carousel).hasSlot x.slot.carrier x.slot.column = true) →
                let unblocked (a : SlotAddr) : Bool := !s.noHandle a &&
                  if a = m.slot then !new.disputed && !new.suspect
                  else !(s.slot a).due && !(s.slot a).disputed && !(s.slot a).suspect
                let shows (x : Task) : Bool := x.slot.carrier = m.slot.carrier && x.state = .queued && unblocked x.slot
                ((∃ x ∈ (s.car k).queue, shows x = true) →
                  (t.car k).state = .presenting ∧ (t.car k).phase = .handling ∧
                  (t.car k).presented = (s.car k).presented ∧
                  (t.car k).gauge = { (s.car k).gauge with
                    state := .idle, measure := none, inFlight := .none, last := (t.car k).gauge.last } ∧
                  ((s.car k).queue.map fun x => if shows x = false then x
                    else if x.isPick then { x with state := .shown, skip := 0, starving := none }
                    else { x with state := .shown }) <+: (t.car k).queue) ∧
                ((∀ x ∈ (s.car k).queue, shows x = false) → s.EnteredIdle t k))) ∧
            (m.purpose = .verify → (s.car k).phase = .verifying →
              let left := (s.car k).unverified.filter fun j => j ≠ m.slot.column
              (∀ j rest, left = j :: rest → s.Measures t k .verifying j .verify ∧ (t.car k).unverified = left) ∧
              (left = [] → s.EnteredIdle t k)))))

/-! ## Tables, slots and zones -/

/-- DEFINE-CLASS replaces a class's width; DEFINE-ARTICLE writes the lowest free position for a new code and its own for a code held,
where its class, width and mass stay or no slot and no store holds it, and on a sound memory a raised maximum age retries the PENDING
orders; the reply's mark is 0 for created and 1 for redefined (the model's choice, log 13). DROP-ARTICLE frees the position of an
unreferenced article. With no position free a new code is answered NO-ROOM. A value out of range, an article in use and an unknown
code are refused. -/
def Obligations.TablesAreDefined : Prop :=
  ∀ (tag : Nat) (s : State),
    (∀ (c : Fin 8) (w : Nat), 105 ≤ w → w ≤ 395 → exec (.defineClass tag c.val w) s =
      .next ({ s with widths := s.widths.set c.val w }.reply 0x10 tag .accepted [.u8 c.val, .u16 w])) ∧
    (∀ c w : Nat, 8 ≤ c ∨ w < 105 ∨ 395 < w → exec (.defineClass tag c w) s = .next (s.reply 0x10 tag .badValue [])) ∧
    (∀ x : Article, x.inRanges = false →
      exec (.defineArticle tag x.code x.cls x.width x.mass x.maxAge) s = .next (s.reply 0x11 tag .badValue [])) ∧
    (∀ (x : Article) (p : Fin 256), x.inRanges = true → s.articleAt x.code = none →
      Lowest (fun p : Fin 256 => s.articles[p.val] = none) p →
      exec (.defineArticle tag x.code x.cls x.width x.mass x.maxAge) s =
        .next ({ s with articles := s.articles.set p.val (some x) }.reply 0x11 tag .accepted
          [.u16 x.code, .mark false, .u8 x.cls, .u16 x.width, .u16 x.mass, .u16 x.maxAge])) ∧
    (∀ x : Article, x.inRanges = true → s.articleAt x.code = none → (∀ p : Fin 256, s.articles[p.val] ≠ none) →
      exec (.defineArticle tag x.code x.cls x.width x.mass x.maxAge) s = .next (s.reply 0x11 tag .noRoom [])) ∧
    (∀ (x old : Article) (p : Fin 256), x.inRanges = true → s.articleAt x.code = some p → s.articles[p.val] = some old →
      let same : Prop := old.cls = x.cls ∧ old.width = x.width ∧ old.mass = x.mass
      let held : Prop := s.slotHolds p.val = true ∨ s.storeNames p.val = true
      let new : State := { s with articles := s.articles.set p.val (some x) }
      let fields : List Field := [.u16 x.code, .mark true, .u8 x.cls, .u16 x.width, .u16 x.mass, .u16 x.maxAge]
      (¬same → held → exec (.defineArticle tag x.code x.cls x.width x.mass x.maxAge) s =
        .next (s.reply 0x11 tag .inUse [])) ∧
      (same ∨ ¬held → x.maxAge ≤ old.maxAge → exec (.defineArticle tag x.code x.cls x.width x.mass x.maxAge) s =
        .next (new.reply 0x11 tag .accepted fields)) ∧
      (same ∨ ¬held → old.maxAge < x.maxAge → ∃ u, exec (.defineArticle tag x.code x.cls x.width x.mass x.maxAge) s =
        .next (u.reply 0x11 tag .accepted fields) ∧ new.Closed u ∧ (s.Sound → s.Shaped → new.Retried u))) ∧
    (∀ code, s.articleAt code = none → exec (.dropArticle tag code) s = .next (s.reply 0x12 tag .notFound [])) ∧
    (∀ code p, s.articleAt code = some p →
      let referenced : Prop := s.slotHolds p.val = true ∨ s.storeNames p.val = true ∨ s.orderNames p.val = true ∨
        s.entryNames code = true
      (referenced → exec (.dropArticle tag code) s = .next (s.reply 0x12 tag .inUse [])) ∧
      (¬referenced → exec (.dropArticle tag code) s =
        .next ({ s with articles := s.articles.set p.val none }.reply 0x12 tag .accepted [])))

/-- LOAD-SLOT on an OFFLINE carousel writes the record: the article, week and count given, or nothing, with no reservation and
DISPUTED and SUSPECT clear. With no audit open COUNT_DUE ends clear too, the carrier's loads and the peaks are formed afresh, the
arming mark is evaluated where the projected loads changed, with BALANCE-HIGH where it was armed and the peak is above the
BALANCE-LIMIT, and every other record stays. In any other state the reply is WRONG-STATE, and for a slot reserved or DISPUTED
IN-USE. Before these a slot outside the geometry, a count that does not go with the article or the column, or an article of another
class is BAD-VALUE, and an unknown article NOT-FOUND. That the reply carries the record without its integrity code, and not the slot
address again, is the model's layout (log 13). -/
def Obligations.LoadSlotWritesTheRecord : Prop :=
  (∀ (tag carousel carrier column article week count : Nat) (s : State),
    (∀ k : Fin 4, k.val = carousel → (s.car k).hasSlot carrier column = false) →
    exec (.loadSlot tag carousel carrier column article week count) s = .next (s.reply 0x13 tag .badValue [])) ∧
  (∀ (tag article week count : Nat) (a : SlotAddr) (s : State),
    (s.car a.carousel).hasSlot a.carrier a.column = true →
    let cmd : Instr := .loadSlot tag a.carousel.val a.carrier a.column article week count
    let wrong : Prop := s.capacity a < count ∨ (0 < count ∧ article = 0) ∨ (article ≠ 0 ∧ (count = 0 ∨ 65535 < week))
    (wrong → exec cmd s = .next (s.reply 0x13 tag .badValue [])) ∧
    (¬wrong → article ≠ 0 → s.articleAt article = none → exec cmd s = .next (s.reply 0x13 tag .notFound [])) ∧
    (∀ (p : Fin 256) (x : Article), ¬wrong → article ≠ 0 → s.articleAt article = some p →
      s.articles[p.val] = some x → x.cls ≠ s.slotClass a → exec cmd s = .next (s.reply 0x13 tag .badValue []))) ∧
  ∀ (tag article week count : Nat) (a : SlotAddr) (held : Option Held) (s : State),
    (s.car a.carousel).hasSlot a.carrier a.column = true → s.Shaped → s.Sound →
    (article = 0 ∧ count = 0 ∧ held = none) ∨
      (∃ (p : Fin 256) (x : Article), article ≠ 0 ∧ s.articleAt article = some p ∧ s.articles[p.val] = some x ∧
        x.cls = s.slotClass a ∧ 1 ≤ count ∧ count ≤ s.capacity a ∧ week ≤ 65535 ∧ held = some ⟨p.val, week⟩) →
    let cmd : Instr := .loadSlot tag a.carousel.val a.carrier a.column article week count
    let offline : Prop := (s.car a.carousel).state = .offline
    let free : Prop := (s.slot a).resOut = 0 ∧ (s.slot a).resIn = 0 ∧ (s.slot a).disputed = false
    (¬offline → exec cmd s = .next (s.reply 0x13 tag .wrongState [])) ∧
    (offline → ¬free → exec cmd s = .next (s.reply 0x13 tag .inUse [])) ∧
    (offline → free → ∃ u : State, exec cmd s = .next (u.reply 0x13 tag .accepted (u.recordFields a)) ∧
      (u.slot a).held = held ∧ (u.slot a).count = count ∧ (u.slot a).resIn = 0 ∧ (u.slot a).resOut = 0 ∧
      (u.slot a).disputed = false ∧ (u.slot a).suspect = false ∧ u.stores = s.stores ∧ u.entries = s.entries ∧ s.Kept u ∧
      ((s.car a.carousel).audit = .none →
        let c := u.car a.carousel
        let above : Bool := c.limits.balanceLimit < c.projPeak
        u.slot a = ⟨held, count, 0, 0, false, false, false, .sound⟩ ∧
        c.phys[a.carrier]? = some (u.physLoad a.carousel a.carrier) ∧
        c.proj[a.carrier]? = some (u.projLoad a.carousel a.carrier) ∧
        c.physPeak = peak c.geometry.n c.phys ∧ c.projPeak = peak c.geometry.n c.proj ∧
        (c.proj = (s.car a.carousel).proj → c.armed = (s.car a.carousel).armed ∧ u.link = s.link) ∧
        (c.proj ≠ (s.car a.carousel).proj → c.armed = !above ∧
          u.link = (if (s.car a.carousel).armed && above then s.raise .balanceHigh [.u8 a.carousel.val,
            .u16 (min c.projPeak 65535), .u16 c.limits.balanceLimit, .u16 (min c.physPeak 65535)] else s).link) ∧
        (∀ b : SlotAddr, (s.car b.carousel).hasSlot b.carrier b.column = true → b ≠ a → u.slot b = s.slot b) ∧
        u.orders = s.orders ∧ u.lanes = s.lanes))

/-- LOCK-ZONE answers the entry that holds the lock already, else writes the lowest unused entry, else NO-ROOM; CLEAR-ZONE makes a
used entry unused and, on a sound memory, retries the PENDING orders without it, and answers NOT-FOUND for an unused one. A carrier
outside the geometry, an unknown kind and an entry number
above 3 are BAD-VALUE. A range covers its carriers, across carrier 0 when its first is above its last. -/
def Obligations.ZonesAreLockedAndCleared : Prop :=
  (∀ (tag first last : Nat) (k : Fin 4) (z : ZoneKind) (s : State),
    first < (s.car k).geometry.n → last < (s.car k).geometry.n →
    let kind := match z with
      | .noStore => 0
      | .noHandle => 1
    (∀ e, Lowest (fun e : Fin 4 => (s.car k).zones[e.val] = some ⟨first, last, z⟩) e →
      exec (.lockZone tag k.val first last kind) s = .next (s.reply 0x05 tag .accepted [.u8 e.val])) ∧
    ((∀ e : Fin 4, (s.car k).zones[e.val] ≠ some ⟨first, last, z⟩) → (∀ e : Fin 4, (s.car k).zones[e.val] ≠ none) →
      exec (.lockZone tag k.val first last kind) s = .next (s.reply 0x05 tag .noRoom [])) ∧
    (∀ e : Fin 4, (∀ f : Fin 4, (s.car k).zones[f.val] ≠ some ⟨first, last, z⟩) →
      Lowest (fun f : Fin 4 => (s.car k).zones[f.val] = none) e →
      ∃ u : State, exec (.lockZone tag k.val first last kind) s = .next (u.reply 0x05 tag .accepted [.u8 e.val]) ∧
        (u.car k).zones = (s.car k).zones.set e.val (some ⟨first, last, z⟩) ∧
        (s.modCar k fun c => { c with zones := c.zones.set e.val (some ⟨first, last, z⟩) }).Closed u)) ∧
  (∀ (tag first last kind : Nat) (k : Fin 4) (s : State),
    (s.car k).geometry.n ≤ first ∨ (s.car k).geometry.n ≤ last ∨ 2 ≤ kind →
    exec (.lockZone tag k.val first last kind) s = .next (s.reply 0x05 tag .badValue [])) ∧
  (∀ (tag entry : Nat) (k : Fin 4) (s : State), 4 ≤ entry →
    exec (.clearZone tag k.val entry) s = .next (s.reply 0x06 tag .badValue [])) ∧
  (∀ (tag : Nat) (k e : Fin 4) (s : State),
    ((s.car k).zones[e.val] = none → exec (.clearZone tag k.val e.val) s = .next (s.reply 0x06 tag .notFound [])) ∧
    ((s.car k).zones[e.val] ≠ none →
      ∃ u : State, exec (.clearZone tag k.val e.val) s = .next (u.reply 0x06 tag .accepted []) ∧
        (u.car k).zones = (s.car k).zones.set e.val none ∧
        (s.modCar k fun c => { c with zones := c.zones.set e.val none }).Closed u ∧
        (s.Sound → s.Shaped → (s.modCar k fun c => { c with zones := c.zones.set e.val none }).Retried u))) ∧
  ∀ first last c : Nat, covers first last c = true ↔
    (first ≤ last ∧ first ≤ c ∧ c ≤ last) ∨ (last < first ∧ (first ≤ c ∨ c ≤ last))

/-! ## Put-away -/

/-- A STORE with a quantity outside 1..16 or a week above 65535 is BAD-VALUE, with an unknown article NOT-FOUND, and with no free
record or no sequence number left NO-ROOM. One that passes these checks on a sound memory: with no place for some tyre it is
answered NO-PLACE with the number placed, and changes nothing. Otherwise the record stands at the lowest free position with the next
store number and work sequence number, each slot's reserved-in has risen by the tyres placed there, each placed slot holds the
article and week, and one PLACE of the placed quantity stands for each placement, created UNRELEASED. Each step chooses among the
slots that R94 admits one that holds the article and week before an empty one, then one of the lowest trial peak, then the lowest
address. -/
def Obligations.StoresReserveTheirPlaces : Prop :=
  (∀ (tag code week quantity target : Nat) (t : Option (Fin 4)) (s : State), target? target = some t →
    (quantity = 0 ∨ 16 < quantity ∨ 65535 < week → exec (.store tag code week quantity target) s =
      .next (s.reply 0x18 tag .badValue [])) ∧
    (1 ≤ quantity → quantity ≤ 16 → week ≤ 65535 →
      (s.articleAt code = none → exec (.store tag code week quantity target) s =
        .next (s.reply 0x18 tag .notFound [])) ∧
      (s.articleAt code ≠ none → (∀ p, s.store? p ≠ none) ∨ s.workSeqSpent = true →
        exec (.store tag code week quantity target) s = .next (s.reply 0x18 tag .noRoom [])))) ∧
  (∀ (tag code week quantity target : Nat) (t : Option (Fin 4)) (x : Fin 256) (p : Fin 16) (s : State),
    target? target = some t → 1 ≤ quantity → quantity ≤ 16 → week ≤ 65535 → s.articleAt code = some x →
    Lowest (fun p => s.store? p = none) p → s.workSeqSpent = false → s.Sound →
    (∀ n, s.placeSteps (s.storeJob x week t) quantity s.openTrial = .failed n →
      exec (.store tag code week quantity target) s = .next (s.reply 0x18 tag .noPlace [.u8 n])) ∧
    (∀ slots : List SlotAddr, s.placeSteps (s.storeJob x week t) quantity s.openTrial = .all slots →
      let r : Store := ⟨s.nextStore, s.workSeq, x.val, week, t, quantity, .opened,
        (tally slots).map fun e => ⟨e.1, e.2, 0⟩⟩
      slots.length = quantity ∧
      ∃ u : State, exec (.store tag code week quantity target) s =
          .next (u.reply 0x18 tag .accepted ([.u8 r.number, .u32 r.seq] ++
            listFields (r.placements.map fun e => addrFields e.slot ++ [.u8 e.placed]))) ∧
        u.store? p = some r ∧ (∀ q, q ≠ p → u.store? q = s.store? q) ∧ u.lastStore = s.nextStore ∧
        (s.workSeq < 4294967295 → u.workSeq = s.workSeq + 1 ∧ u.workSeqSpent = false) ∧
        u.entries = s.entries ∧ u.link.replies = s.link.replies ∧
        (s.Shaped → ∀ a : SlotAddr, (s.car a.carousel).hasSlot a.carrier a.column = true →
          (u.slot a).resIn = (s.slot a).resIn + slots.count a ∧ (u.slot a).count = (s.slot a).count ∧
          (a ∈ slots → (u.slot a).held = some ⟨x.val, week⟩)) ∧
        ((∀ t ∈ s.allTasks, t.id < s.nextTask) → ∀ e ∈ r.placements, ∃ t ∈ u.allTasks,
          t.owner = .place p ∧ t.slot = e.slot ∧ t.quantity = e.placed ∧ t.week = week) ∧
        (s.Lawful → (u.allTasks.filter fun t => t.owner = .place p).length = r.placements.length))) ∧
  (∀ (p : Fin 16) (r : Store) (es : List (SlotAddr × Nat)) (s : State),
    (s.commitStore p r es).waiting = s.waiting ++ es.mapIdx fun i e =>
      ⟨s.nextTask + i, .place p, e.1, e.2, r.week, .unreleased, 0, none⟩) ∧
  ∀ (j : PlaceJob) (tr : Trial) (s : State),
    let holds (a : SlotAddr) : Bool := (s.slot a).held = some ⟨j.article, j.week⟩ || tr.used.contains a
    let after (a : SlotAddr) : Nat := s.trialPeak (tr.place a j.mass) a.carousel
    let fits (a : SlotAddr) : Prop := (s.car a.carousel).hasSlot a.carrier a.column = true ∧
      (s.car a.carousel).serviceable = true ∧ (∀ k, j.target = some k → k = a.carousel) ∧ a ∉ j.excluded ∧
      s.slotClass a = j.cls ∧ s.noStore a = false ∧ s.noHandle a = false ∧ (s.slot a).disputed = false ∧
      (s.slot a).suspect = false ∧ (s.slot a).count + (s.slot a).resIn + tr.used.count a < s.capacity a ∧
      (holds a = true ∨ ((s.slot a).held = none ∧ (s.slot a).count = 0 ∧ (s.slot a).resIn = 0)) ∧
      tr.load a.carousel a.carrier + j.mass ≤ (s.car a.carousel).limits.carrierMax ∧
      (after a ≤ (s.car a.carousel).limits.driveLimit ∨ after a ≤ s.trialPeak tr a.carousel)
    let lower (a b : SlotAddr) : Prop := a.carousel < b.carousel ∨ (a.carousel = b.carousel ∧
      (a.carrier < b.carrier ∨ (a.carrier = b.carrier ∧ a.column < b.column)))
    (s.choosePlace j tr = none ↔ ∀ a, ¬fits a) ∧
    ∀ a, s.choosePlace j tr = some a → fits a ∧ ∀ b, fits b → b ≠ a →
      (holds a = true ∧ holds b = false) ∨
        (holds a = holds b ∧ (after a < after b ∨ (after a = after b ∧ lower a b)))

/-- The number of the next store (R92): the first, counting on from the last given with 255 followed by 1, that no record holds; one
is found within 17 steps, it becomes the last given, and power-on and both resets set the last given to 0. -/
def Obligations.StoreNumbersCountOn : Prop :=
  (∀ s : State, ∃ i, i < 17 ∧ s.nextStore = (s.lastStore + i) % 255 + 1 ∧
    (∀ p r, s.store? p = some r → r.number ≠ s.nextStore) ∧
    ∀ j, j < i → ∃ p r, s.store? p = some r ∧ r.number = (s.lastStore + j) % 255 + 1) ∧
  (∀ n, n < 255 → n % 255 + 1 = n + 1) ∧ 255 % 255 + 1 = 1 ∧
  (∀ (p : Fin 16) (r : Store) (es : List (SlotAddr × Nat)) (s : State), (s.commitStore p r es).lastStore = r.number) ∧
  State.reset.lastStore = 0 ∧
  (∀ (a b : Bool) (s : State), (s.restart a b).lastStore = 0) ∧ ∀ s : State, s.resetEffect.lastStore = 0

/-- DROP-STORE on an OPEN store gives up the places of all its tasks: in a lawful state the reserved-in of each slot falls by the
store's unwithdrawn tasks there, a slot left with no tyre and no place loses its article, and of its tasks only the SHOWN ones
stay, WITHDRAWN. The reply carries the store's confirmed count and the tyres given up. The record is CLOSING with its quantity cut
to the confirmed count while a SHOWN or WITHDRAWN task of it stood, and freed else. An unknown number is NOT-FOUND, a number outside
1..255 BAD-VALUE, a CLOSING store WRONG-STATE. The reply's mark is 0 for freed and 1 for CLOSING (the model's choice, log 13). -/
def Obligations.DropStoreGivesUpPlaces : Prop :=
  (∀ (tag number : Nat) (s : State), number = 0 ∨ 255 < number →
    exec (.dropStore tag number) s = .next (s.reply 0x19 tag .badValue [])) ∧
  ∀ (tag number : Nat) (s : State), 1 ≤ number → number ≤ 255 →
    (s.storeAt number = none → exec (.dropStore tag number) s = .next (s.reply 0x19 tag .notFound [])) ∧
    (∀ (p : Fin 16) (r : Store), s.storeAt number = some p → s.store? p = some r →
      (r.state = .closing → exec (.dropStore tag number) s = .next (s.reply 0x19 tag .wrongState [])) ∧
      (r.state = .opened →
        let confirmed := (r.placements.map (·.confirmed)).sum
        let held := s.allTasks.filter fun t => t.ofStore p && t.state ≠ .withdrawn
        let closing : Store := { r with
          placements := (r.placements.map fun e => { e with placed := e.confirmed }).filter fun e => e.placed ≠ 0
          quantity := confirmed
          state := .closing }
        ∃ u : State, exec (.dropStore tag number) s = .next (u.reply 0x19 tag .accepted
            [.u8 number, .u8 confirmed, .u8 (held.map (·.quantity)).sum, .mark (u.store? p).isSome]) ∧
          (u.store? p = none ∨ u.store? p = some closing) ∧
          ((∀ t ∈ s.allTasks, t.ofStore p = true → t.state = .unreleased ∨ t.state = .queued) → u.store? p = none) ∧
          (∀ q, q ≠ p → u.store? q = s.store? q) ∧ s.Kept u ∧
          (s.Sound → s.Shaped → s.Lawful →
            (∀ a : SlotAddr, (s.car a.carousel).hasSlot a.carrier a.column = true →
              (u.slot a).resIn = (s.slot a).resIn - ((held.filter fun t => t.slot = a).map (·.quantity)).sum ∧
              (u.slot a).count = (s.slot a).count ∧
              (u.slot a).held = if (u.slot a).count = 0 ∧ (u.slot a).resIn = 0 then none else (s.slot a).held) ∧
            (∀ t ∈ u.allTasks, t.ofStore p = true → t.state = .withdrawn) ∧
            (u.store? p = if ∃ t ∈ s.allTasks, t.ofStore p = true ∧ (t.state = .shown ∨ t.state = .withdrawn)
              then some closing else none))))

/-! ## Orders -/

/-- An ORDER is refused BAD-VALUE, NOT-FOUND, IN-USE and NO-ROOM by the four checks of R112 in turn. One that passes them on a sound
memory is held at the lowest free position with the next work sequence number: ALLOCATED, or PICKING with a lane in the same event,
when every line can be filled, and PENDING when not. The reply carries the code, the number, the mark and the state. An order that
is filled has each slot's reserved-out raised by the tyres taken there, and a PICK with the slot's week for each line and slot. A
line takes its whole quantity from slots that R115 admits, never more than is available, each take passing the balance test, in the
order of week and slot address, and a set line of a new order within SET-SPREAD weeks. A line that is no set line passes over an
older slot only where no tyre of it is left or one failed the balance test, and fails only where this holds of every slot. A set
line is filled from one window of SET-SPREAD weeks: its starting weeks, the weeks of its candidates, or, of a line with dispatched
tyres, those and its lowest dispatched week as far as their windows hold every week dispatched, are tried in ascending order; a slot
dropped by the balance test in one window stays dropped in the later ones; the first window that fills the line is taken, and the
line fails only where none does. An order that is filled takes the lowest eligible lane where it stands before every order that
waits for one, and none where no lane is eligible. The queue fill (R71) moves in release order as many releasable tasks of a
carousel as its queue has room for. -/
def Obligations.OrdersAreEntered : Prop :=
  (∀ (tag code priority : Nat) (lines : List LineArg) (s : State),
    let wrong : Prop := code = 0 ∨ 65535 < code ∨ 3 < priority ∨ lines = [] ∨ 8 < lines.length ∨
      (∃ x ∈ lines, x.quantity = 0 ∨ 16 < x.quantity ∨ 2 ≤ x.set) ∨ s.laneCap < (lines.map (·.quantity)).sum
    let unknown : Prop := ∃ x ∈ lines, s.articleAt x.article = none
    (wrong → exec (.order tag code priority lines) s = .next (s.reply 0x20 tag .badValue [])) ∧
    (¬wrong → unknown → exec (.order tag code priority lines) s = .next (s.reply 0x20 tag .notFound [])) ∧
    (¬wrong → ¬unknown → s.orderAt code ≠ none →
      exec (.order tag code priority lines) s = .next (s.reply 0x20 tag .inUse [])) ∧
    (¬wrong → ¬unknown → s.orderAt code = none → (∀ o, s.order? o ≠ none) ∨ s.workSeqSpent = true →
      exec (.order tag code priority lines) s = .next (s.reply 0x20 tag .noRoom []))) ∧
  (∀ (tag code priority : Nat) (lines : List LineArg) (ls : List Line) (o : Fin 32) (s : State),
    s.orderOk code priority lines = true → s.orderLines lines = some ls → s.orderAt code = none →
    Lowest (fun o => s.order? o = none) o → s.workSeqSpent = false → s.Sound → s.Paired →
    let attempt := s.takeLines (ls.map fun x => ⟨x.article, x.quantity, x.set, none⟩) s.openTrial
    let filled := attempt.isSome
    ∃ (u : State) (r : Order), exec (.order tag code priority lines) s =
        .next (u.reply 0x20 tag .accepted ([.u16 code, .u32 s.workSeq, .u8 (if filled then 0 else 1), .u8 r.state.code] ++
          optU8 (r.lane.map (·.val)))) ∧
      u.order? o = some r ∧ r.code = code ∧ r.priority = priority ∧ r.seq = s.workSeq ∧ r.lines = ls ∧
      (filled = true → r.state = .allocated ∨ (r.state = .picking ∧ r.lane.isSome = true)) ∧
      (filled = false → r.state = .pending ∧ r.lane = none) ∧
      (filled = true → (∀ l, (s.lane l).state ≠ .free ∨ (s.lane l).overflow = true) → r.state = .allocated ∧ r.lane = none) ∧
      (∀ l, filled = true → Lowest (fun l => (s.lane l).state = .free ∧ (s.lane l).overflow = false) l →
        (∀ q x, s.order? q = some x → x.state = .allocated → r.Before x) →
        r.state = .picking ∧ r.lane = some l ∧
        u.lane l = ⟨.filling, some o, (lines.map (·.quantity)).sum, 0, 0, false, false, false, false, none⟩) ∧
      (s.workSeq < 4294967295 → u.workSeq = s.workSeq + 1 ∧ u.workSeqSpent = false) ∧
      u.stores = s.stores ∧ u.entries = s.entries ∧ u.link.replies = s.link.replies ∧
      (∀ picks, attempt = some picks → s.Shaped →
        (∀ a : SlotAddr, (s.car a.carousel).hasSlot a.carrier a.column = true →
          (u.slot a).resOut = (s.slot a).resOut + picks.flatten.count a ∧ (u.slot a).count = (s.slot a).count) ∧
        ((∀ t ∈ s.allTasks, t.id < s.nextTask) →
          ∀ (i : Nat) (slots : List SlotAddr), picks[i]? = some slots → ∀ a ∈ slots,
            ∃ t ∈ u.allTasks, t.owner = .pick o (i + 1) ∧ t.slot = a ∧ t.quantity = slots.count a ∧
              t.week = s.weekOf a))) ∧
  (∀ (j : LineJob) (tr tr' : Trial) (slots : List SlotAddr) (s : State), s.takeLine j tr = some (slots, tr') →
    slots.length = j.quantity ∧
    (∀ a ∈ slots, (s.slot a).held.map (·.article) = some j.article ∧ (s.car a.carousel).serviceable = true ∧
      (s.slot a).disputed = false ∧ (s.slot a).suspect = false ∧ s.noHandle a = false ∧
      (∀ x, s.article? j.article = some x → s.week - s.weekOf a ≤ x.maxAge) ∧
      slots.count a + tr.used.count a ≤ (s.slot a).count - (s.slot a).resOut) ∧
    (j.set = true → j.span = none → ∀ a ∈ slots, ∀ b ∈ slots, s.weekOf b ≤ s.weekOf a + s.setSpread)) ∧
  (∀ (j : LineJob) (tr : Trial) (s : State),
    let mass := ((s.article? j.article).map (·.mass)).getD 0
    let after (xs : List SlotAddr) : Trial := xs.foldl (fun t a => t.take a mass) tr
    let key (a : SlotAddr) : List Nat := [s.weekOf a, a.carousel.val, a.carrier, a.column]
    let admits (a : SlotAddr) : Prop := (s.car a.carousel).hasSlot a.carrier a.column = true ∧
      (s.slot a).held.map (·.article) = some j.article ∧ (s.car a.carousel).serviceable = true ∧
      (s.slot a).disputed = false ∧ (s.slot a).suspect = false ∧ s.noHandle a = false ∧
      ∃ x, s.article? j.article = some x ∧ s.week - s.weekOf a ≤ x.maxAge
    let left (xs : List SlotAddr) (a : SlotAddr) : Nat :=
      (s.slot a).count - (s.slot a).resOut - tr.used.count a - xs.count a
    let fails (xs : List SlotAddr) (a : SlotAddr) : Prop :=
      (s.car a.carousel).limits.driveLimit < s.trialPeak (after (xs ++ [a])) a.carousel ∧
        s.trialPeak (after xs) a.carousel < s.trialPeak (after (xs ++ [a])) a.carousel
    let passed (xs : List SlotAddr) (a : SlotAddr) : Prop := left xs a = 0 ∨ ∃ p, p <+: xs ∧ fails p a
    (∀ slots tr', s.takeLine j tr = some (slots, tr') → tr' = after slots ∧
      slots.Pairwise (fun a b => lexLe (key a) (key b) = true) ∧
      ∀ xs a rest, slots = xs ++ a :: rest → ¬fails xs a ∧
        (j.set = false → ∀ b, admits b → b ≠ a → lexLe (key b) (key a) = true → passed xs b)) ∧
    (s.takeLine j tr = none → j.set = false → ∃ xs, xs.length < j.quantity ∧ ∀ b, admits b → passed xs b) ∧
    (j.set = true →
      let inside (w : Nat) (a : SlotAddr) : Prop := w ≤ s.weekOf a ∧ s.weekOf a ≤ w + s.setSpread
      let starts (w : Nat) : Prop := match j.span with
        | none => ∃ b, admits b ∧ left [] b ≠ 0 ∧ s.weekOf b = w
        | some (lo, hi) => (w = lo ∨ ∃ b, admits b ∧ left [] b ≠ 0 ∧ s.weekOf b = w) ∧ w ≤ lo ∧ hi ≤ w + s.setSpread
      -- a slot of the window that still held a tyre, passed over on the way to a take or to the end of a walk that took none
      let skipped (w : Nat) (xs : List SlotAddr) (b : SlotAddr) : Prop := admits b ∧ inside w b ∧
        ∃ p, p <+: xs ∧ left p b ≠ 0 ∧ ((p = xs ∧ xs.length < j.quantity) ∨
          ∃ a, p ++ [a] <+: xs ∧ a ≠ b ∧ lexLe (key b) (key a) = true)
      -- the takes of one window, after windows that did not fill the line
      let window (before : List (Nat × List SlotAddr)) (w : Nat) (xs : List SlotAddr) : Prop :=
        let dropped (b : SlotAddr) : Prop := ∃ e ∈ before, skipped e.1 e.2 b
        (∀ a ∈ xs, admits a ∧ inside w a ∧ ¬dropped a) ∧ (∀ p a, p ++ [a] <+: xs → left p a ≠ 0 ∧ ¬fails p a) ∧
          xs.Pairwise (fun a b => lexLe (key a) (key b) = true) ∧
          ∀ b, skipped w xs b → dropped b ∨ ∃ p, p <+: xs ∧ left p b ≠ 0 ∧ fails p b
      ∃ weeks : List Nat, weeks.Pairwise (· < ·) ∧ (∀ w, w ∈ weeks ↔ starts w) ∧
        ∃ tried : List (Nat × List SlotAddr), tried.map (·.1) <+: weeks ∧
          (∀ i e, tried[i]? = some e → window (tried.take i) e.1 e.2 ∧ e.2.length < j.quantity) ∧
          (s.takeLine j tr = none → tried.map (·.1) = weeks) ∧
          ∀ slots tr', s.takeLine j tr = some (slots, tr') →
            ∃ w, tried.map (·.1) ++ [w] <+: weeks ∧ window tried w slots)) ∧
  ∀ (k : Fin 4) (s : State),
    let ready := s.waiting.filter fun t => t.slot.carousel = k && s.releasable t
    let key (t : Task) : List Nat := [s.ownerSeq t, t.line, t.slot.carousel.val, t.slot.carrier, t.slot.column]
    ∃ batch : List Task, batch.length = min (32 - (s.car k).queue.length) ready.length ∧ (∀ t ∈ batch, t ∈ ready) ∧
      batch.Pairwise (fun t x => lexLe (key t) (key x) = true) ∧
      (∀ t ∈ batch, ∀ x ∈ ready, x ∉ batch → lexLe (key t) (key x) = true) ∧
      ((s.fillQueue k).car k).queue = (s.car k).queue ++ batch.map (fun t => { t with state := .queued }) ∧
      (s.fillQueue k).waiting = s.waiting.filter fun t => !(batch.map (·.id)).contains t.id

/-- CANCEL: a PENDING or ALLOCATED order is freed and its tasks given up; a PICKING, SHORT or CANCELLED order becomes CANCELLED and
its lane ORPHAN, expecting what was dispatched, or, with nothing dispatched and no SHOWN or WITHDRAWN task left of it, is freed with
its lane. In a lawful state the reserved-out of each slot falls by the order's tasks given up there, but for what a retry of PENDING
orders then takes; of its tasks only WITHDRAWN ones stay, and under COMPLETE the SHOWN ones. The reply carries the state the order
was in, the mark freed or CANCELLED, the tyres released, the PICKs left SHOWN, those withdrawn and the dispatched total. A COMPLETE
order is refused with WRONG-STATE, an unknown code with NOT-FOUND and a code of 0 with BAD-VALUE. That the mark is 0 for FREED and 1
for CANCELLED is the model's choice (log 13). -/
def Obligations.CancelsReleaseOrders : Prop :=
  (∀ (tag code : Nat) (s : State), code = 0 ∨ 65535 < code →
    exec (.cancel tag code) s = .next (s.reply 0x21 tag .badValue [])) ∧
  ∀ (tag code : Nat) (s : State), 1 ≤ code → code ≤ 65535 →
    (s.orderAt code = none → exec (.cancel tag code) s = .next (s.reply 0x21 tag .notFound [])) ∧
    (∀ (o : Fin 32) (r : Order), s.orderAt code = some o → s.order? o = some r →
      let total := (r.lines.map (·.dispatched)).sum
      let mine := s.allTasks.filter fun t => t.ofOrder o
      let given := mine.filter fun t => t.state ≠ .withdrawn && (t.state ≠ .shown || s.cancelMode = .withdraw)
      let shown := (mine.filter fun t => t.state = .shown).length
      let others : Prop := ∃ q x, q ≠ o ∧ s.order? q = some x ∧ x.state = .pending
      let releases (u : State) : Prop := ∀ a : SlotAddr, (s.car a.carousel).hasSlot a.carrier a.column = true →
        let left := (s.slot a).resOut - ((given.filter fun t => t.slot = a).map (·.quantity)).sum
        left ≤ (u.slot a).resOut ∧ (r.state = .pending ∨ ¬others → (u.slot a).resOut = left) ∧
        (u.slot a).count = (s.slot a).count
      (r.state = .complete → exec (.cancel tag code) s = .next (s.reply 0x21 tag .wrongState [])) ∧
      (r.state = .pending ∨ r.state = .allocated →
        ∃ u : State, exec (.cancel tag code) s = .next (u.reply 0x21 tag .accepted
            [.u16 r.code, .u8 r.state.code, .u8 0, .u8 (given.map (·.quantity)).sum, .u8 0]) ∧
          u.order? o = none ∧ u.stores = s.stores ∧ u.entries = s.entries ∧ s.Kept u ∧
          (s.Sound → s.Shaped → s.Paired → s.Lawful → releases u ∧ ∀ t ∈ u.allTasks, t.ofOrder o = false)) ∧
      (r.state = .picking ∨ r.state = .short ∨ r.state = .cancelled →
        ∃ (u : State) (m : Nat), exec (.cancel tag code) s = .next (u.reply 0x21 tag .accepted
            [.u16 r.code, .u8 r.state.code, .u8 m, .u8 (given.map (·.quantity)).sum,
              .u8 (if s.cancelMode = .complete then shown else 0), .u8 (if s.cancelMode = .withdraw then shown else 0),
              .u8 total]) ∧
          (u.order? o = none ∨ u.order? o = some { r with state := .cancelled }) ∧
          u.stores = s.stores ∧ u.entries = s.entries ∧ s.Kept u ∧
          (s.Sound → s.Shaped → s.Paired → s.Lawful →
            let freed : Prop := total = 0 ∧ ∀ t ∈ mine, t.state = .unreleased ∨ t.state = .queued
            releases u ∧
            (∀ t ∈ u.allTasks, t.ofOrder o = true →
              t.state = .withdrawn ∨ (t.state = .shown ∧ s.cancelMode = .complete)) ∧
            (freed → m = 0 ∧ u.order? o = none ∧
              ((∀ q x, s.order? q = some x → x.state ≠ .pending ∧ x.state ≠ .allocated) → ∀ l, r.lane = some l →
                u.lane l = { s.lane l with
                  state := .free, order := none, expected := 0, dispatched := 0, late := false, short := false
                  orphan := false, timer := none })) ∧
            (¬freed → m = 1 ∧ u.order? o = some { r with state := .cancelled } ∧ ∀ l, r.lane = some l →
              (u.lane l).order = some o ∧ (u.lane l).expected = total ∧ (u.lane l).orphan = true))))

/-- The current week (R110): SET-WEEK takes a later week and keeps the one held against an equal or earlier one, changing nothing
else but the reply path; power-on and the RESET pin set it 0, a RESET request keeps it, no other command lowers it, and none takes it
past 65535. Ages are measured against it. -/
def Obligations.WeekOnlyMovesOn : Prop :=
  (∀ (tag week : Nat) (s : State), week ≤ 65535 →
    let held := if s.week < week then week else s.week
    exec (.setWeek tag week) s =
      .next ({ s with week := held }.reply 0x23 tag .accepted [.u16 held, .mark (week < held)])) ∧
  State.reset.week = 0 ∧
  (∀ (a b : Bool) (s t : State), exec (.powerOn a b) s = .next t ∨ exec (.resetPin a b) s = .next t → t.week = 0) ∧
  (∀ s t : State, exec .resetEffect s = .next t → t.week = s.week) ∧
  (∀ (i : Instr) (s t : State), (∀ a b, i ≠ .powerOn a b) → (∀ a b, i ≠ .resetPin a b) → exec i s = .next t →
    s.week ≤ t.week) ∧
  (∀ (i : Instr) (s t : State), s.week ≤ 65535 → exec i s = .next t → t.week ≤ 65535) ∧
  ∀ (s : State) (w : Nat), s.age w = s.week - w

/-- SET-POLICY: SET-SPREAD is held at most 52 unless the span in use is larger, and raised on a sound memory it retries the PENDING
orders; CANCEL-MODE takes its two values; LANE-CAP is clamped
into 4..32 unless an order's total is larger; TRANSIT-TIMEOUT is clamped into 1..120 and GAUGE-SPAN into 500..3000. The reply carries
the item, the value held and the clamp mark. -/
def Obligations.PoliciesAreSet : Prop :=
  ∀ (tag v : Nat) (s : State),
    let spread := min 52 v
    let cap := max 4 (min 32 v)
    let timeout := max 1 (min 120 v)
    let span := max 500 (min 3000 v)
    (spread < s.spanInUse → exec (.setPolicySetSpread tag v) s = .next (s.reply 0x24 tag .inUse [])) ∧
    (s.spanInUse ≤ spread → spread ≤ s.setSpread → exec (.setPolicySetSpread tag v) s =
      .next ({ s with setSpread := spread }.reply 0x24 tag .accepted [.u8 0, .u16 spread, .mark (spread ≠ v)])) ∧
    (s.spanInUse ≤ spread → s.setSpread < spread → ∃ u : State, exec (.setPolicySetSpread tag v) s =
      .next (u.reply 0x24 tag .accepted [.u8 0, .u16 spread, .mark (spread ≠ v)]) ∧
      { s with setSpread := spread }.Closed u ∧ (s.Sound → s.Shaped → { s with setSpread := spread }.Retried u)) ∧
    (v = 0 → exec (.setPolicyCancelMode tag v) s =
      .next ({ s with cancelMode := .withdraw }.reply 0x24 tag .accepted [.u8 1, .u16 0, .mark false])) ∧
    (v = 1 → exec (.setPolicyCancelMode tag v) s =
      .next ({ s with cancelMode := .complete }.reply 0x24 tag .accepted [.u8 1, .u16 1, .mark false])) ∧
    (2 ≤ v → exec (.setPolicyCancelMode tag v) s = .next (s.reply 0x24 tag .badValue [])) ∧
    ((∃ o r, s.order? o = some r ∧ cap < (r.lines.map (·.quantity)).sum) →
      exec (.setPolicyLaneCap tag v) s = .next (s.reply 0x24 tag .inUse [])) ∧
    ((∀ o r, s.order? o = some r → (r.lines.map (·.quantity)).sum ≤ cap) → exec (.setPolicyLaneCap tag v) s =
      .next ({ s with laneCap := cap }.reply 0x24 tag .accepted [.u8 2, .u16 cap, .mark (cap ≠ v)])) ∧
    exec (.setPolicyTransitTimeout tag v) s =
      .next ({ s with transitTimeout := timeout }.reply 0x24 tag .accepted [.u8 3, .u16 timeout, .mark (timeout ≠ v)]) ∧
    exec (.setPolicyGaugeSpan tag v) s =
      .next ({ s with gaugeSpan := span }.reply 0x24 tag .accepted [.u8 4, .u16 span, .mark (span ≠ v)])

/-! ## Lanes -/

/-- An ARRIVE edge below the dispatches raises arrived and nothing else; one that brings a FILLING lane's arrivals level with its
dispatches and its expected count, with no task of its order left, makes it READY and a PICKING order COMPLETE, with ORDER-READY
(that its OVERFLOW mark is also the presence mark of the excess beside it is the model's choice, log 13); one at or above the
dispatches raises arrived up to 63, sets OVERFLOW, and raises LANE-OVERFLOW when the flag was clear. -/
def Obligations.ArrivalsAreCounted : Prop :=
  ∀ (l : Fin 8) (s : State),
    let x := s.lane l
    (x.arrived + 1 < x.dispatched → exec (.arrive l) s = .next (s.setLane l { x with arrived := x.arrived + 1 })) ∧
    (x.arrived + 1 = x.dispatched →
      x.state ≠ .filling ∨ x.dispatched ≠ x.expected ∨
        (∃ o, x.order = some o ∧ ∃ t ∈ s.allTasks, t.ofOrder o = true) →
      exec (.arrive l) s = .next (s.setLane l { x with arrived := x.dispatched, timer := none, late := false })) ∧
    (∀ (o : Fin 32) (r : Order), x.arrived + 1 = x.dispatched → x.state = .filling → x.order = some o →
      x.dispatched = x.expected → s.order? o = some r → (∀ t ∈ s.allTasks, t.ofOrder o = false) → s.Paired →
      let st := if r.state = .picking then OrderState.complete else r.state
      ∃ t : State, exec (.arrive l) s = .next t ∧ s.Kept t ∧
        t.lane l = { x with state := .ready, arrived := x.dispatched, timer := none, late := false } ∧
        t.order? o = some { r with state := st } ∧
        (s.raise .orderReady [.u8 l.val, .u16 r.code, .u8 st.code, .mark x.short, .mark x.orphan, .u8 r.total,
          .u8 x.expected, .u8 x.dispatched, .u8 x.dispatched, .mark x.overflow, .u8 0]).link.notices <+:
          t.link.notices) ∧
    (x.dispatched ≤ x.arrived →
      ∃ t : State, exec (.arrive l) s = .next t ∧ s.Kept t ∧ (t.lane l).overflow = true ∧
        (t.lane l).arrived = min 63 (x.arrived + 1) ∧
        (x.state ≠ .filling → t.lane l = { x with arrived := min 63 (x.arrived + 1), overflow := true } ∧
          t.orders = s.orders) ∧
        (x.overflow = false →
          (s.raise .laneOverflow [.u8 l.val, .u8 x.state.code, .u16 (s.laneCode l), .u8 x.dispatched,
            .u8 (min 63 (x.arrived + 1))]).link.notices <+: t.link.notices))

/-- A clear by request or by key collects a READY lane, freeing its order with ORDER-COLLECTED, and clears OVERFLOW on a FREE lane;
with no ALLOCATED order waiting the lane is then FREE and empty, and else the arbiter grants. The arbiter grants eligible lanes,
those FREE without OVERFLOW, to ALLOCATED orders while both last: the order of highest priority, and of equal priority the lowest
sequence number, takes the lowest lane, which becomes FILLING for it, expecting its total, with nothing dispatched or arrived, no
flag and no timer, and the order becomes PICKING with that lane; no other order or lane changes. On a FILLING lane, or a FREE one
without OVERFLOW, the key is discarded and the request answered WRONG-STATE. The reply's mark is 0 for COLLECTED and 1 for
OVERFLOW-CLEARED (the model's choice, log 13). -/
def Obligations.LanesAreCleared : Prop :=
  (∀ s : State,
    let waits (o : Fin 32) (r : Order) : Prop := s.order? o = some r ∧ r.state = .allocated
    let eligible (l : Fin 8) : Prop := (s.lane l).state = .free ∧ (s.lane l).overflow = false
    ∃ grants : List (Fin 32 × Fin 8),
      { s.arbitrate with orders := s.orders, lanes := s.lanes } = s ∧
      (grants.map (·.1)).Nodup ∧ (grants.map (·.2)).Pairwise (· < ·) ∧
      grants.Pairwise (fun g h => ∀ r x, s.order? g.1 = some r → s.order? h.1 = some x → ¬x.Before r) ∧
      ((∀ o r, waits o r → o ∈ grants.map (·.1)) ∨ ∀ l, eligible l → l ∈ grants.map (·.2)) ∧
      (∀ g ∈ grants, eligible g.2 ∧ (∀ j, eligible j → j ∉ grants.map (·.2) → g.2 < j) ∧
        ∃ r, waits g.1 r ∧ (∀ o x, waits o x → o ∉ grants.map (·.1) → ¬x.Before r) ∧
          s.arbitrate.order? g.1 = some { r with state := .picking, lane := some g.2 } ∧
          s.arbitrate.lane g.2 =
            ⟨.filling, some g.1, (r.lines.map (·.quantity)).sum, 0, 0, false, false, false, false, none⟩) ∧
      (∀ o, o ∉ grants.map (·.1) → s.arbitrate.order? o = s.order? o) ∧
      ∀ l, l ∉ grants.map (·.2) → s.arbitrate.lane l = s.lane l) ∧
  ∀ (tag : Nat) (l : Fin 8) (s : State),
    let x := s.lane l
    let waits : Prop := ∃ o r, s.order? o = some r ∧ r.state = .allocated
    (∀ (o : Fin 32) (r : Order), x.state = .ready → x.order = some o → s.order? o = some r →
      ∃ u : State, exec (.clearKey l) s = .next u ∧
        exec (.clearLane tag l.val) s =
          .next (u.reply 0x28 tag .accepted [.u8 l.val, .u8 0, .u16 r.code, .u8 x.arrived]) ∧
        s.Kept u ∧ u.order? o = none ∧
        (s.raise .orderCollected [.u8 l.val, .u16 r.code, .u8 r.state.code, .u8 r.dispatchedTotal,
          .u8 x.arrived]).link.notices <+: u.link.notices ∧
        (¬waits → u.lane l = Lane.initial) ∧
        (s.Paired → let emptied : State := (s.setOrder o none).setLane l Lane.initial
          u.orders = emptied.arbitrate.orders ∧ u.lanes = emptied.arbitrate.lanes)) ∧
    (x.state = .free → x.overflow = true →
      ∃ u : State, exec (.clearKey l) s = .next u ∧
        exec (.clearLane tag l.val) s = .next (u.reply 0x28 tag .accepted [.u8 l.val, .u8 1, .u16 0, .u8 x.arrived]) ∧
        s.Kept u ∧ (u.lane l).overflow = false ∧ (u.lane l).arrived = 0 ∧
        (¬waits → x.order = none → u = s.setLane l { x with overflow := false, arrived := 0 }) ∧
        (s.Paired → let emptied : State := s.setLane l { x with overflow := false, arrived := 0 }
          u.orders = emptied.arbitrate.orders ∧ u.lanes = emptied.arbitrate.lanes)) ∧
    (x.state = .filling ∨ (x.state = .free ∧ x.overflow = false) →
      exec (.clearKey l) s = .next s ∧ exec (.clearLane tag l.val) s = .next (s.reply 0x28 tag .wrongState []))

/-- The expiry of a running transit timer marks its lane TRANSIT-LATE, stops the timer and raises the notice, at the time of the
expiry (time moves there: the model's choice, log 2). The notice carries the TRANSIT-TIMEOUT held then (log 30) in two bytes (log
13). A stopped timer does not expire (log 3). -/
def Obligations.TransitTimerExpiryMarksLate : Prop :=
  ∀ (l : Fin 8) (s : State),
    (∀ due, (s.lane l).timer = some due → exec (.transitTimerExpiry l) s =
      .next (((s.advance (due - s.laneClock)).setLane l { s.lane l with late := true, timer := none }).raise .transitLate
        [.u8 l.val, .u16 (s.laneCode l), .u8 (s.lane l).dispatched, .u8 (s.lane l).arrived, .u16 s.transitTimeout])) ∧
    ((s.lane l).timer = none → exec (.transitTimerExpiry l) s = .next s)

/-! ## Audits -/

/-- An AUDIT SWEEP on a configured carousel without audit starts at the carrier at the opening, or at the first of its range met
from there in forward running; the slots of that carrier end COUNT_DUE or DISPUTED, entries found is 0, and the reply carries the
range, the start and its size. Where a slot of that carrier is then due, the audit stands as the sweep of the range with its cursor
there, carriers remaining its size and marks the slots newly set due, and every other slot of the carousel is as due as it was. One
carrier alone, or one outside the geometry, gives BAD-VALUE, and an open audit WRONG-STATE; an unconfigured carousel gives
WRONG-STATE too, with a range as without (the model's choice between R2 and R164, log 26). The test of an open sweep, on a sound
memory: with a slot of the cursor carrier COUNT_DUE, or a hold in force, nothing changes; else with one carrier remaining the sweep
ends with AUDIT-DONE, and with more the next carrier of the range in sweep order becomes the cursor carrier, its slots neither
DISPUTED nor COUNT_DUE set COUNT_DUE and marked, where one of its slots is then due. The reply's one byte for the size, and the
ascending order of the columns in the list of marks, are the model's (log 13). -/
def Obligations.SweepsStartAtTheOpening : Prop :=
  ∀ (tag : Nat) (k : Fin 4) (s : State),
    let n := (s.car k).geometry.n
    let wide := (s.car k).geometry.s
    (∀ first last : Option Nat, first.isSome ≠ last.isSome →
      exec (.auditSweep tag k.val first last) s = .next (s.reply 0x30 tag .badValue [])) ∧
    (∀ f l : Nat, n ≠ 0 → n ≤ f ∨ n ≤ l →
      exec (.auditSweep tag k.val (some f) (some l)) s = .next (s.reply 0x30 tag .badValue [])) ∧
    (∀ f l : Nat, n = 0 ∨ (f < n ∧ l < n ∧ (s.car k).audit ≠ .none) →
      exec (.auditSweep tag k.val (some f) (some l)) s = .next (s.reply 0x30 tag .wrongState [])) ∧
    (n = 0 → exec (.auditSweep tag k.val none none) s = .next (s.reply 0x30 tag .wrongState [])) ∧
    (n ≠ 0 → exec (.auditSweep tag k.val none none) s = exec (.auditSweep tag k.val (some 0) (some (n - 1))) s) ∧
    (∀ f l : Nat, f < n → l < n → (s.car k).audit = .none → s.Sound → s.Shaped →
      ∃ (u : State) (d : Nat), d < n ∧
        let start := subMod n (s.car k).atOpening d
        covers f l start = true ∧ (∀ e, e < d → covers f l (subMod n (s.car k).atOpening e) = false) ∧
        exec (.auditSweep tag k.val (some f) (some l)) s = .next (u.reply 0x30 tag .accepted
          [.u8 f, .u8 l, .u8 start, .u8 (if f ≤ l then l - f + 1 else n - f + l + 1)]) ∧
        s.Kept u ∧ u.entries = s.entries ∧ u.stores = s.stores ∧
        (∀ j, j < wide → (u.slot ⟨k, start, j⟩).due = true ∨ (u.slot ⟨k, start, j⟩).disputed = true) ∧
        (u.car k).found = 0 ∧
        let size := if f ≤ l then l - f + 1 else n - f + l + 1
        let fresh := (List.range wide).filter fun j => !(s.slot ⟨k, start, j⟩).disputed && !(s.slot ⟨k, start, j⟩).due
        ((∃ j, j < wide ∧ ((s.slot ⟨k, start, j⟩).due = true ∨ (s.slot ⟨k, start, j⟩).disputed = false)) →
          (u.car k).audit = .sweep ⟨f, l, start, size, fresh⟩ ∧
          ∀ c j, c < n → j < wide →
            (u.slot ⟨k, c, j⟩).due = ((s.slot ⟨k, c, j⟩).due || (c = start && fresh.contains j)))) ∧
    (∀ w : Sweep, (s.car k).audit = .sweep w → s.Sound → s.Shaped →
      let owing : Prop := ∃ j, j < wide ∧ (s.slot ⟨k, w.cursor, j⟩).due = true
      (owing ∨ (s.car k).hold = true → s.testAudit k = s) ∧
      (¬owing → (s.car k).hold = false → w.remaining ≤ 1 → s.testAudit k =
        (s.modCar k fun c => { c with audit := .none }).raise .auditDone
          [.u8 k.val, .u8 0, .mark true, .u8 w.first, .u8 w.last, .u16 (s.car k).found]) ∧
      (¬owing → (s.car k).hold = false → 2 ≤ w.remaining → w.first < n → w.last < n →
        ∃ d, d < n ∧
          let next := subMod n (subMod n w.cursor 1) d
          let fresh := (List.range wide).filter fun j => !(s.slot ⟨k, next, j⟩).disputed && !(s.slot ⟨k, next, j⟩).due
          covers w.first w.last next = true ∧
          (∀ e, e < d → covers w.first w.last (subMod n (subMod n w.cursor 1) e) = false) ∧
          ((∃ j, j < wide ∧ ((s.slot ⟨k, next, j⟩).due = true ∨ (s.slot ⟨k, next, j⟩).disputed = false)) →
            { s.testAudit k with carousels := s.carousels } = s ∧
            ((s.testAudit k).car k).audit = .sweep ⟨w.first, w.last, next, w.remaining - 1, fresh⟩ ∧
            (∀ j, j ≠ k → (s.testAudit k).car j = s.car j) ∧
            ∀ c j, c < n → j < wide →
              ((s.testAudit k).slot ⟨k, c, j⟩).due = ((s.slot ⟨k, c, j⟩).due || (c = next && fresh.contains j)) ∧
              ((s.testAudit k).slot ⟨k, c, j⟩).count = (s.slot ⟨k, c, j⟩).count ∧
              ((s.testAudit k).slot ⟨k, c, j⟩).disputed = (s.slot ⟨k, c, j⟩).disputed)))

/-- An AUDIT SUSPECT on a configured carousel without audit sets COUNT_DUE every SUSPECT slot that no entry names, and answers their
number, those that were COUNT_DUE before included (the model's reading of "slots set due", log 24); every other slot of the carousel
stays as due as it was, and the audit stands open, with entries found 0, while a slot is SUSPECT and COUNT_DUE. Where every SUSPECT
slot is named by an entry and not due it is completed in the event with AUDIT-DONE and entries found 0. With a range it is answered
BAD-VALUE, on an unconfigured carousel or with an audit open WRONG-STATE. That this AUDIT-DONE carries the range as absent is the
model's layout (log 13). -/
def Obligations.SuspectAuditsSendForCount : Prop :=
  (∀ (tag : Nat) (k : Fin 4) (first last : Option Nat) (s : State),
    (first.isSome = true ∨ last.isSome = true →
      exec (.auditSuspect tag k.val first last) s = .next (s.reply 0x30 tag .badValue [])) ∧
    (first = none → last = none → (s.car k).geometry.n = 0 ∨ (s.car k).audit ≠ .none →
      exec (.auditSuspect tag k.val first last) s = .next (s.reply 0x30 tag .wrongState []))) ∧
  ∀ (tag : Nat) (k : Fin 4) (s : State), (s.car k).geometry.n ≠ 0 → (s.car k).audit = .none → s.Sound →
    (∃ u : State, exec (.auditSuspect tag k.val none none) s =
        .next (u.reply 0x30 tag .accepted [.u16 (s.suspectAddrs k).length]) ∧
      s.Kept u ∧ u.entries = s.entries ∧ (u.car k).found = 0 ∧
      (s.Shaped → ∀ c j, (s.car k).hasSlot c j = true →
        let r := s.slot ⟨k, c, j⟩
        let r' := u.slot ⟨k, c, j⟩
        r'.suspect = r.suspect ∧ r'.count = r.count ∧
        r'.due = (r.due || (r.suspect && !(s.entries.any fun e => e.slot = ⟨k, c, j⟩)))) ∧
      (s.Shaped → (∃ c j, (s.car k).hasSlot c j = true ∧ (u.slot ⟨k, c, j⟩).suspect = true ∧ (u.slot ⟨k, c, j⟩).due = true) →
        (u.car k).audit = .suspect)) ∧
    (s.Shaped → (∀ c j, (s.car k).hasSlot c j = true → (s.slot ⟨k, c, j⟩).suspect = true →
        (s.slot ⟨k, c, j⟩).due = false ∧ ∃ e ∈ s.entries, e.slot = ⟨k, c, j⟩) → exec (.auditSuspect tag k.val none none) s =
      .next (((s.modCar k fun c => { c with found := 0 }).raise .auditDone
        [.u8 k.val, .u8 1, .mark false, .u8 0, .u8 0, .u16 0]).reply 0x30 tag .accepted [.u16 0]))

/-- STOP-AUDIT: without audit the reply is WRONG-STATE. A SUSPECT audit ends with no flag changed; a sweep ends with COUNT_DUE
cleared on the marked slots of its cursor carrier, which end clear, every other slot of the carousel staying as due as it was. Both
keep the entries found, and raise no AUDIT-DONE; on a carousel that is not IDLE they raise nothing. A marked slot whose record is
found uncorrectable loses its mark in the read and stays due: that STOP-AUDIT reads its marked slots is the model's reading (log 8).
The reply's marks for the cursor carrier and the carriers remaining are the model's layout (log 13). -/
def Obligations.StoppedAuditsClearTheirMarks : Prop :=
  ∀ (tag : Nat) (k : Fin 4) (s : State),
    ((s.car k).audit = .none → exec (.stopAudit tag k.val) s = .next (s.reply 0x31 tag .wrongState [])) ∧
    ((s.car k).audit = .suspect → exec (.stopAudit tag k.val) s =
      .next ((s.modCar k fun c => { c with audit := .none }).reply 0x31 tag .accepted
        [.u8 1, .u16 (s.car k).found, .mark false, .u8 0, .mark false, .u8 0])) ∧
    (∀ w : Sweep, (s.car k).audit = .sweep w →
      ∃ u : State, exec (.stopAudit tag k.val) s = .next (u.reply 0x31 tag .accepted
          [.u8 0, .u16 (s.car k).found, .mark true, .u8 w.cursor, .mark true, .u8 w.remaining]) ∧
        (u.car k).audit = .none ∧ (u.car k).found = (s.car k).found ∧
        (s.Sound → s.Kept u ∧ u.entries = s.entries ∧
          (∀ x ∈ u.link.notices.drop s.link.notices.length, x.kind ≠ .auditDone) ∧
          ((s.car k).state ≠ .idle → u.link = s.link) ∧
          (∀ j ∈ w.marks, (u.slot ⟨k, w.cursor, j⟩).due = false) ∧
          (w.marks = [] → u = s.modCar k fun c => { c with audit := .none })) ∧
        (s.Shaped → (∀ j ∈ w.marks, (s.car k).hasSlot w.cursor j = true) →
          (s.Sound → ∀ c j, (s.car k).hasSlot c j = true → ¬(c = w.cursor ∧ j ∈ w.marks) →
            (u.slot ⟨k, c, j⟩).due = (s.slot ⟨k, c, j⟩).due) ∧
          (∀ j ∈ w.marks, ∀ raw, (s.slot ⟨k, w.cursor, j⟩).damage = .uncorrectable raw →
            (u.slot ⟨k, w.cursor, j⟩).due = true ∧ (u.slot ⟨k, w.cursor, j⟩).suspect = true)))

/-- RESOLVE: a request without decisions or with more than 16, one that names a slot twice or outside the geometry, one of an
unknown decision, and one whose KEEP or RECOUNT carries an article are BAD-VALUE; a generation other than the carousel's is answered
STALE, and a slot without entry NOT-FOUND. On a sound memory an ACCEPT that carries an article where none is wanted, or none where
one is, is BAD-VALUE, an unknown article NOT-FOUND, and an article of another class than the slot's column BAD-VALUE. A request that
passes every check is applied whole: every named slot's entry is removed and the others stay, and the generation rises by the number
of decisions. KEEP clears DISPUTED and SUSPECT and keeps the count; RECOUNT sets COUNT_DUE and keeps both flags and the count. Where
every ACCEPT measured a count within the reservations, each writes that count, clears both flags, gives an empty slot the article it
carries, and nothing is revoked. In a lawful state one ACCEPT alone of less than reserved-out revokes PICKs, the youngest first, and
ends with the measured count and reserved-out within it; one of more than the places leave revokes PLACEs, the youngest store's
first, and ends with the measured count and its places within the capacity. A PICK revoked from an ALLOCATED or PICKING order has
its line given up and allocated again for what is not dispatched, without notice, or the order becomes PENDING or SHORT with
ORDER-SHORT and no task but WITHDRAWN ones; one of another order is given up alone. A PLACE revoked is placed again on other slots,
without notice, or its store's quantity falls with STORE-FAILED: the store stays open while tyres are to come, is STORED and ends
once all are confirmed, and ends with none left. The layout of the reply's and the notices' fields that R191 does not list, the
list's fill in one byte among them, is the model's (log 13). -/
def Obligations.ResolutionsEndDisputes : Prop :=
  (∀ (tag gen : Nat) (k : Fin 4) (ds : List DecisionArg) (s : State),
    (ds = [] ∨ 16 < ds.length ∨ ¬(ds.map fun d => (d.carrier, d.column)).Nodup ∨
        (∃ d ∈ ds, (s.car k).hasSlot d.carrier d.column = false ∨ 2 < d.decision ∨ (d.decision ≠ 0 ∧ d.article ≠ 0)) →
      exec (.resolve tag k.val gen ds) s = .next (s.reply 0x33 tag .badValue [])) ∧
    ((∀ d ∈ ds, (s.car k).hasSlot d.carrier d.column = true ∧ d.decision ≤ 2 ∧ (d.decision ≠ 0 → d.article = 0) ∧
        d.week ≤ 65535) →
      s.decisions? k ds = some (ds.map fun d => (⟨k, d.carrier, d.column⟩,
        if d.decision = 0 then .accept (if d.article = 0 then none else some (d.article, d.week))
        else if d.decision = 1 then .keep else .recount)))) ∧
  (∀ (tag gen : Nat) (k : Fin 4) (ds : List DecisionArg) (xs : List (SlotAddr × Decision)) (s : State),
    s.decisions? k ds = some xs → 1 ≤ xs.length → xs.length ≤ 16 → (xs.map (·.1)).Nodup →
    let listed (a : SlotAddr) : Option Entry := s.entries.find? fun e => e.slot = a
    let wrong : Prop := ∃ a stock e, (a, Decision.accept stock) ∈ xs ∧ listed a = some e ∧
      ¬(stock.isSome = true ↔ (s.slot a).held = none ∧ 0 < e.measured)
    let unknown : Prop := ∃ a code week, (a, Decision.accept (some (code, week))) ∈ xs ∧ s.articleAt code = none
    let misfit : Prop := ∃ a code week p x, (a, Decision.accept (some (code, week))) ∈ xs ∧ s.articleAt code = some p ∧
      s.article? p.val = some x ∧ x.cls ≠ s.slotClass a
    (gen ≠ (s.car k).generation →
      exec (.resolve tag k.val gen ds) s = .next (s.reply 0x33 tag .stale [.u16 (s.car k).generation])) ∧
    (∀ d, gen = (s.car k).generation → xs.find? (fun d => (listed d.1).isNone) = some d →
      exec (.resolve tag k.val gen ds) s = .next (s.reply 0x33 tag .notFound (addrFields d.1))) ∧
    (gen = (s.car k).generation → (∀ d ∈ xs, (listed d.1).isSome = true) → s.Sound →
      (wrong → exec (.resolve tag k.val gen ds) s = .next (s.reply 0x33 tag .badValue [])) ∧
      (¬wrong → unknown → exec (.resolve tag k.val gen ds) s = .next (s.reply 0x33 tag .notFound [])) ∧
      (¬wrong → ¬unknown → misfit → exec (.resolve tag k.val gen ds) s = .next (s.reply 0x33 tag .badValue [])) ∧
      (¬wrong → ¬unknown → ¬misfit → s.Shaped →
        ∃ (u : State) (picks places allocated : Nat), exec (.resolve tag k.val gen ds) s =
            .next (u.reply 0x33 tag .accepted [.u16 (u.car k).generation, .u8 xs.length, .u8 picks, .u8 places,
              .u8 allocated, .u8 u.entries.length]) ∧
          u.entries = (s.entries.filter fun e => !(xs.map (·.1)).contains e.slot) ∧ s.Kept u ∧
          (u.car k).generation = ((s.car k).generation + xs.length) % 65536 ∧
          (∀ j, j ≠ k → (u.car j).generation = (s.car j).generation) ∧
          (∀ a, (a, Decision.keep) ∈ xs → (u.slot a).disputed = false ∧ (u.slot a).suspect = false ∧
            (u.slot a).count = (s.slot a).count) ∧
          (∀ a, (a, Decision.recount) ∈ xs → (u.slot a).due = true ∧ (u.slot a).disputed = (s.slot a).disputed ∧
            (u.slot a).suspect = (s.slot a).suspect ∧ (u.slot a).count = (s.slot a).count) ∧
          ((∀ a stock e, (a, Decision.accept stock) ∈ xs → listed a = some e →
              (s.slot a).resOut ≤ e.measured ∧ e.measured + (s.slot a).resIn ≤ s.capacity a) →
            picks = 0 ∧ places = 0 ∧
            (∀ a d, (a, d) ∈ xs → (u.slot a).resIn = (s.slot a).resIn) ∧
            ∀ a stock e, (a, Decision.accept stock) ∈ xs → listed a = some e →
              (u.slot a).disputed = false ∧ (u.slot a).suspect = false ∧ (u.slot a).count = e.measured ∧
              (∀ code week q, stock = some (code, week) → s.articleAt code = some q →
                (u.slot a).held = some ⟨q.val, week⟩) ∧
              (stock = none → (u.slot a).held =
                if e.measured = 0 ∧ (s.slot a).resIn = 0 then none else (s.slot a).held)) ∧
          ∀ a e, xs = [(a, Decision.accept none)] → listed a = some e → s.Paired → s.Lawful →
            let written : State :=
              (s.changeSlot a (acceptSlot none e.measured (s.capacity a))).removeEntry a
            let younger (x t : Task) : Prop :=
              s.ownerSeq x < s.ownerSeq t ∨ (s.ownerSeq x = s.ownerSeq t ∧ x.line < t.line)
            (e.measured < (s.slot a).resOut →
              1 ≤ picks ∧ places = 0 ∧ (u.slot a).disputed = false ∧ (u.slot a).suspect = false ∧
              (u.slot a).count = e.measured ∧ (u.slot a).resOut ≤ e.measured ∧
              (∀ b, (s.car b.carousel).hasSlot b.carrier b.column = true →
                (u.slot b).resIn = (s.slot b).resIn ∧ (b ≠ a → (u.slot b).count = (s.slot b).count)) ∧
              ∀ t ∈ s.picksOn a, (∀ x ∈ s.picksOn a, x ≠ t → younger x t) →
                (written.revokePick ⟨a, e.measured⟩ t).link.notices <+: u.link.notices ∧
                (s.picksOn a = [t] → picks = 1)) ∧
            (s.capacity a < e.measured + (s.slot a).resIn → e.measured ≤ s.capacity a →
              1 ≤ places ∧ picks = 0 ∧ (u.slot a).disputed = false ∧ (u.slot a).suspect = false ∧
              (u.slot a).count = e.measured ∧ e.measured + (u.slot a).resIn ≤ s.capacity a ∧
              (∀ b, (s.car b.carousel).hasSlot b.carrier b.column = true → b ≠ a →
                (u.slot b).count = (s.slot b).count ∧ (s.slot b).resIn ≤ (u.slot b).resIn) ∧
              ∀ t ∈ s.placesOn a, (∀ x ∈ s.placesOn a, x ≠ t → s.ownerSeq x < s.ownerSeq t) →
                (written.revokePlace ⟨a, e.measured⟩ t).link.notices <+: u.link.notices ∧
                (s.placesOn a = [t] → places = 1))))) ∧
  (∀ (acc : Accepting) (t : Task) (o : Fin 32) (l : Nat) (r : Order) (x : Line) (s : State),
    s.Sound → s.Shaped → s.Lawful → t ∈ s.allTasks → t.state ≠ .withdrawn → t.owner = .pick o l →
    s.order? o = some r → r.lines[l - 1]? = some x →
    let v := s.revokePick acc t
    let given (b : SlotAddr) : Nat := ((s.allTasks.filter fun y =>
      y.owner = .pick o l && y.slot = b && y.state ≠ .withdrawn).map (·.quantity)).sum
    let w := s.giveUpLine (some acc) o l
    let again : LineJob := ⟨x.article, x.quantity - x.dispatched, x.set, x.span⟩
    let total := (r.lines.map (·.quantity)).sum
    let gone := (r.lines.map (·.dispatched)).sum
    (r.state ≠ .allocated → r.state ≠ .picking →
      v.orders = s.orders ∧ v.lanes = s.lanes ∧ v.link = s.link ∧
      (v.slot t.slot).resOut = (s.slot t.slot).resOut - t.quantity ∧
      (∀ b, (s.car b.carousel).hasSlot b.carrier b.column = true → b ≠ t.slot → v.slot b = s.slot b) ∧
      ∀ y ∈ v.allTasks, y.id = t.id → y.state = .withdrawn) ∧
    (r.state = .allocated ∨ r.state = .picking →
      (∀ b, (s.car b.carousel).hasSlot b.carrier b.column = true →
        (w.slot b).resOut = (s.slot b).resOut - given b ∧ (b ≠ acc.slot → (w.slot b).count = (s.slot b).count)) ∧
      (∀ slots tr, w.takeLine again w.openTrial = some (slots, tr) →
        slots.length = x.quantity - x.dispatched ∧ v.orders = s.orders ∧ v.lanes = s.lanes ∧ v.link = s.link ∧
        (∀ b, (s.car b.carousel).hasSlot b.carrier b.column = true →
          (v.slot b).resOut = (w.slot b).resOut + slots.count b) ∧
        ∀ b ∈ slots, ∃ y ∈ v.allTasks, y.owner = .pick o l ∧ y.slot = b ∧ y.quantity = slots.count b ∧
          y.state = .unreleased) ∧
      (w.takeLine again w.openTrial = none →
        let ends : OrderState := if r.state = .allocated then .pending else .short
        v.order? o = some { r with state := ends } ∧
        v.link = (s.raise .orderShort ([.u16 r.code, .u8 l, .u8 ends.code] ++ optU8 (r.lane.map (·.val)) ++
          [.u8 total, .u8 gone])).link ∧
        (∀ y ∈ v.allTasks, y.ofOrder o = true → y.state = .withdrawn) ∧
        (r.state = .allocated → v.lanes = s.lanes) ∧
        (r.state = .picking → ∀ k, r.lane = some k → v.lane k = { s.lane k with expected := gone, short := true })))) ∧
  ∀ (acc : Accepting) (t : Task) (p : Fin 16) (r : Store) (s : State),
    s.Sound → s.Shaped → s.Lawful → t ∈ s.allTasks → t.state ≠ .withdrawn → t.owner = .place p → s.store? p = some r →
    let v := s.revokePlace acc t
    let es := (r.placements.map fun e => if e.slot = t.slot then { e with placed := e.placed - t.quantity } else e).filter
      fun e => e.placed ≠ 0 || e.confirmed ≠ 0
    let confirmed := (es.map (·.confirmed)).sum
    let kept : Store := { r with placements := es }
    let w := (s.giveUp (some acc) t).setStore p (some kept)
    let steps := w.placeSteps (w.replaceJob p kept t.slot) t.quantity w.openTrial
    (w.slot t.slot).resIn = (s.slot t.slot).resIn - t.quantity ∧
    (∀ slots, steps = .all slots →
      slots.length = t.quantity ∧ t.slot ∉ slots ∧ (∀ e ∈ es, e.slot ∉ slots) ∧ v.link = s.link ∧
      v.store? p = some { r with placements := es ++ (tally slots).map fun e => ⟨e.1, e.2, 0⟩ } ∧
      ∀ b, (s.car b.carousel).hasSlot b.carrier b.column = true →
        (v.slot b).resIn = (w.slot b).resIn + slots.count b) ∧
    ∀ n, steps = .failed n →
      let left := r.quantity - t.quantity
      let last : Store := { kept with quantity := left }
      let stock := s.codeOf (some ⟨r.article, r.week⟩)
      let told := s.raise .storeFailed
        ([.u8 r.number, .u16 stock, .u16 r.week] ++ addrFields t.slot ++ [.u8 t.quantity, .u8 left])
      let ended : Prop := (v.store? p = none ∨ v.store? p = some { last with state := .closing }) ∧
        (v.store? p = none ↔ ∀ y ∈ v.allTasks, y.ofStore p = true → y.state ≠ .withdrawn)
      (confirmed < left → v.link = told.link ∧ v.store? p = some last) ∧
      (confirmed = left → 0 < left → ended ∧
        v.link = (told.raise .stored ([.u8 r.number, .u16 stock, .u16 r.week, .u8 left] ++
          listFields (es.map fun e => addrFields e.slot ++ [.u8 e.confirmed]))).link) ∧
      (left = 0 → ended ∧ v.link = told.link)
end

