-- ==== Sys2Proof/Laws/State.lean ====
section
/-! SUPPORT. One lemma per field per update of the state: what the primitive updates (`setCar`, `modCar`, `setLane`, `setOrder`,
`setStore`, `setArticle`, `raise`, `reply`) leave as it was, and what a read after a write gives. -/

namespace Sys2Proof.Machine

variable (s : State)

/-! ## A read after a write -/

@[simp] theorem State.car_setCar_same (k : Fin 4) (c : Carousel) : (s.setCar k c).car k = c := by
  simp [State.car, State.setCar]

theorem State.car_setCar (k j : Fin 4) (c : Carousel) : (s.setCar k c).car j = if j = k then c else s.car j := by
  rcases eq_or_ne j k with rfl | h
  · simp
  · have : k.val ≠ j.val := fun e => h (Fin.ext e.symm)
    simp [State.car, State.setCar, h, this]

theorem State.car_setCar_ne {k j : Fin 4} (h : j ≠ k) (c : Carousel) : (s.setCar k c).car j = s.car j := by
  simp [State.car_setCar, h]

@[simp] theorem State.car_modCar_same (k : Fin 4) (f : Carousel → Carousel) : (s.modCar k f).car k = f (s.car k) := by
  simp [State.modCar]

theorem State.car_modCar (k j : Fin 4) (f : Carousel → Carousel) :
    (s.modCar k f).car j = if j = k then f (s.car k) else s.car j := by simp [State.modCar, State.car_setCar]

theorem State.car_modCar_ne {k j : Fin 4} (h : j ≠ k) (f : Carousel → Carousel) : (s.modCar k f).car j = s.car j := by
  simp [State.car_modCar, h]

@[simp] theorem State.lane_setLane_same (l : Fin 8) (x : Lane) : (s.setLane l x).lane l = x := by
  simp [State.lane, State.setLane]

theorem State.lane_setLane (l j : Fin 8) (x : Lane) : (s.setLane l x).lane j = if j = l then x else s.lane j := by
  rcases eq_or_ne j l with rfl | h
  · simp
  · have : l.val ≠ j.val := fun e => h (Fin.ext e.symm)
    simp [State.lane, State.setLane, h, this]

@[simp] theorem State.order?_setOrder_same (o : Fin 32) (x : Option Order) : (s.setOrder o x).order? o = x := by
  simp [State.order?, State.setOrder]

theorem State.order?_setOrder (o j : Fin 32) (x : Option Order) :
    (s.setOrder o x).order? j = if j = o then x else s.order? j := by
  rcases eq_or_ne j o with rfl | h
  · simp
  · have : o.val ≠ j.val := fun e => h (Fin.ext e.symm)
    simp [State.order?, State.setOrder, h, this]

@[simp] theorem State.store?_setStore_same (p : Fin 16) (x : Option Store) : (s.setStore p x).store? p = x := by
  simp [State.store?, State.setStore]

theorem State.store?_setStore (p j : Fin 16) (x : Option Store) :
    (s.setStore p x).store? j = if j = p then x else s.store? j := by
  rcases eq_or_ne j p with rfl | h
  · simp
  · have : p.val ≠ j.val := fun e => h (Fin.ext e.symm)
    simp [State.store?, State.setStore, h, this]

/-! ## Reads of other tables -/

@[simp] theorem State.lane_setCar (k : Fin 4) (c : Carousel) (j : Fin 8) : (s.setCar k c).lane j = s.lane j := rfl
@[simp] theorem State.order?_setCar (k : Fin 4) (c : Carousel) (j : Fin 32) : (s.setCar k c).order? j = s.order? j := rfl
@[simp] theorem State.store?_setCar (k : Fin 4) (c : Carousel) (j : Fin 16) : (s.setCar k c).store? j = s.store? j := rfl
@[simp] theorem State.article?_setCar (k : Fin 4) (c : Carousel) (p : Nat) : (s.setCar k c).article? p = s.article? p := rfl
@[simp] theorem State.lane_modCar (k : Fin 4) (f : Carousel → Carousel) (j : Fin 8) : (s.modCar k f).lane j = s.lane j := rfl
@[simp] theorem State.order?_modCar (k : Fin 4) (f : Carousel → Carousel) (j : Fin 32) : (s.modCar k f).order? j = s.order? j := rfl
@[simp] theorem State.store?_modCar (k : Fin 4) (f : Carousel → Carousel) (j : Fin 16) : (s.modCar k f).store? j = s.store? j := rfl
@[simp] theorem State.article?_modCar (k : Fin 4) (f : Carousel → Carousel) (p : Nat) : (s.modCar k f).article? p = s.article? p := rfl
@[simp] theorem State.car_setLane (l : Fin 8) (x : Lane) (j : Fin 4) : (s.setLane l x).car j = s.car j := rfl
@[simp] theorem State.order?_setLane (l : Fin 8) (x : Lane) (j : Fin 32) : (s.setLane l x).order? j = s.order? j := rfl
@[simp] theorem State.store?_setLane (l : Fin 8) (x : Lane) (j : Fin 16) : (s.setLane l x).store? j = s.store? j := rfl
@[simp] theorem State.article?_setLane (l : Fin 8) (x : Lane) (p : Nat) : (s.setLane l x).article? p = s.article? p := rfl
@[simp] theorem State.car_setOrder (o : Fin 32) (x : Option Order) (j : Fin 4) : (s.setOrder o x).car j = s.car j := rfl
@[simp] theorem State.lane_setOrder (o : Fin 32) (x : Option Order) (j : Fin 8) : (s.setOrder o x).lane j = s.lane j := rfl
@[simp] theorem State.store?_setOrder (o : Fin 32) (x : Option Order) (j : Fin 16) : (s.setOrder o x).store? j = s.store? j := rfl
@[simp] theorem State.article?_setOrder (o : Fin 32) (x : Option Order) (p : Nat) : (s.setOrder o x).article? p = s.article? p := rfl
@[simp] theorem State.car_setStore (q : Fin 16) (x : Option Store) (j : Fin 4) : (s.setStore q x).car j = s.car j := rfl
@[simp] theorem State.lane_setStore (q : Fin 16) (x : Option Store) (j : Fin 8) : (s.setStore q x).lane j = s.lane j := rfl
@[simp] theorem State.order?_setStore (q : Fin 16) (x : Option Store) (j : Fin 32) : (s.setStore q x).order? j = s.order? j := rfl
@[simp] theorem State.article?_setStore (q : Fin 16) (x : Option Store) (p : Nat) : (s.setStore q x).article? p = s.article? p := rfl
@[simp] theorem State.car_setArticle (q : Fin 256) (x : Option Article) (j : Fin 4) : (s.setArticle q x).car j = s.car j := rfl
@[simp] theorem State.lane_setArticle (q : Fin 256) (x : Option Article) (j : Fin 8) : (s.setArticle q x).lane j = s.lane j := rfl
@[simp] theorem State.order?_setArticle (q : Fin 256) (x : Option Article) (j : Fin 32) : (s.setArticle q x).order? j = s.order? j := rfl
@[simp] theorem State.store?_setArticle (q : Fin 256) (x : Option Article) (j : Fin 16) : (s.setArticle q x).store? j = s.store? j := rfl
@[simp] theorem State.car_raise (kind : NoticeKind) (fs : List Field) (j : Fin 4) :
    (s.raise kind fs).car j = s.car j := by
  unfold State.raise; split <;> rfl
@[simp] theorem State.lane_raise (kind : NoticeKind) (fs : List Field) (j : Fin 8) :
    (s.raise kind fs).lane j = s.lane j := by
  unfold State.raise; split <;> rfl
@[simp] theorem State.order?_raise (kind : NoticeKind) (fs : List Field) (j : Fin 32) :
    (s.raise kind fs).order? j = s.order? j := by
  unfold State.raise; split <;> rfl
@[simp] theorem State.store?_raise (kind : NoticeKind) (fs : List Field) (j : Fin 16) :
    (s.raise kind fs).store? j = s.store? j := by
  unfold State.raise; split <;> rfl
@[simp] theorem State.article?_raise (kind : NoticeKind) (fs : List Field) (p : Nat) :
    (s.raise kind fs).article? p = s.article? p := by
  unfold State.raise; split <;> rfl
@[simp] theorem State.car_reply (kind tag : Nat) (st : Status) (fs : List Field) (j : Fin 4) :
    (s.reply kind tag st fs).car j = s.car j := rfl
@[simp] theorem State.lane_reply (kind tag : Nat) (st : Status) (fs : List Field) (j : Fin 8) :
    (s.reply kind tag st fs).lane j = s.lane j := rfl
@[simp] theorem State.order?_reply (kind tag : Nat) (st : Status) (fs : List Field) (j : Fin 32) :
    (s.reply kind tag st fs).order? j = s.order? j := rfl
@[simp] theorem State.store?_reply (kind tag : Nat) (st : Status) (fs : List Field) (j : Fin 16) :
    (s.reply kind tag st fs).store? j = s.store? j := rfl
@[simp] theorem State.article?_reply (kind tag : Nat) (st : Status) (fs : List Field) (p : Nat) :
    (s.reply kind tag st fs).article? p = s.article? p := rfl

/-! ## Fields -/

@[simp] theorem State.setCar_widths (k : Fin 4) (c : Carousel) : (s.setCar k c).widths = s.widths := rfl
@[simp] theorem State.setCar_articles (k : Fin 4) (c : Carousel) : (s.setCar k c).articles = s.articles := rfl
@[simp] theorem State.setCar_corrections (k : Fin 4) (c : Carousel) : (s.setCar k c).corrections = s.corrections := rfl
@[simp] theorem State.setCar_waiting (k : Fin 4) (c : Carousel) : (s.setCar k c).waiting = s.waiting := rfl
@[simp] theorem State.setCar_nextTask (k : Fin 4) (c : Carousel) : (s.setCar k c).nextTask = s.nextTask := rfl
@[simp] theorem State.setCar_workSeq (k : Fin 4) (c : Carousel) : (s.setCar k c).workSeq = s.workSeq := rfl
@[simp] theorem State.setCar_workSeqSpent (k : Fin 4) (c : Carousel) : (s.setCar k c).workSeqSpent = s.workSeqSpent := rfl
@[simp] theorem State.setCar_schedClock (k : Fin 4) (c : Carousel) : (s.setCar k c).schedClock = s.schedClock := rfl
@[simp] theorem State.setCar_stores (k : Fin 4) (c : Carousel) : (s.setCar k c).stores = s.stores := rfl
@[simp] theorem State.setCar_lastStore (k : Fin 4) (c : Carousel) : (s.setCar k c).lastStore = s.lastStore := rfl
@[simp] theorem State.setCar_orders (k : Fin 4) (c : Carousel) : (s.setCar k c).orders = s.orders := rfl
@[simp] theorem State.setCar_week (k : Fin 4) (c : Carousel) : (s.setCar k c).week = s.week := rfl
@[simp] theorem State.setCar_setSpread (k : Fin 4) (c : Carousel) : (s.setCar k c).setSpread = s.setSpread := rfl
@[simp] theorem State.setCar_cancelMode (k : Fin 4) (c : Carousel) : (s.setCar k c).cancelMode = s.cancelMode := rfl
@[simp] theorem State.setCar_lanes (k : Fin 4) (c : Carousel) : (s.setCar k c).lanes = s.lanes := rfl
@[simp] theorem State.setCar_laneCap (k : Fin 4) (c : Carousel) : (s.setCar k c).laneCap = s.laneCap := rfl
@[simp] theorem State.setCar_transitTimeout (k : Fin 4) (c : Carousel) : (s.setCar k c).transitTimeout = s.transitTimeout := rfl
@[simp] theorem State.setCar_laneClock (k : Fin 4) (c : Carousel) : (s.setCar k c).laneClock = s.laneClock := rfl
@[simp] theorem State.setCar_gaugeSpan (k : Fin 4) (c : Carousel) : (s.setCar k c).gaugeSpan = s.gaugeSpan := rfl
@[simp] theorem State.setCar_entries (k : Fin 4) (c : Carousel) : (s.setCar k c).entries = s.entries := rfl
@[simp] theorem State.setCar_link (k : Fin 4) (c : Carousel) : (s.setCar k c).link = s.link := rfl
@[simp] theorem State.setCar_estop (k : Fin 4) (c : Carousel) : (s.setCar k c).estop = s.estop := rfl
@[simp] theorem State.setCar_idleTicks (k : Fin 4) (c : Carousel) : (s.setCar k c).idleTicks = s.idleTicks := rfl
@[simp] theorem State.setCar_pending (k : Fin 4) (c : Carousel) : (s.setCar k c).pending = s.pending := rfl

@[simp] theorem State.modCar_widths (k : Fin 4) (f : Carousel → Carousel) : (s.modCar k f).widths = s.widths := rfl
@[simp] theorem State.modCar_articles (k : Fin 4) (f : Carousel → Carousel) : (s.modCar k f).articles = s.articles := rfl
@[simp] theorem State.modCar_corrections (k : Fin 4) (f : Carousel → Carousel) : (s.modCar k f).corrections = s.corrections := rfl
@[simp] theorem State.modCar_waiting (k : Fin 4) (f : Carousel → Carousel) : (s.modCar k f).waiting = s.waiting := rfl
@[simp] theorem State.modCar_nextTask (k : Fin 4) (f : Carousel → Carousel) : (s.modCar k f).nextTask = s.nextTask := rfl
@[simp] theorem State.modCar_workSeq (k : Fin 4) (f : Carousel → Carousel) : (s.modCar k f).workSeq = s.workSeq := rfl
@[simp] theorem State.modCar_workSeqSpent (k : Fin 4) (f : Carousel → Carousel) : (s.modCar k f).workSeqSpent = s.workSeqSpent := rfl
@[simp] theorem State.modCar_schedClock (k : Fin 4) (f : Carousel → Carousel) : (s.modCar k f).schedClock = s.schedClock := rfl
@[simp] theorem State.modCar_stores (k : Fin 4) (f : Carousel → Carousel) : (s.modCar k f).stores = s.stores := rfl
@[simp] theorem State.modCar_lastStore (k : Fin 4) (f : Carousel → Carousel) : (s.modCar k f).lastStore = s.lastStore := rfl
@[simp] theorem State.modCar_orders (k : Fin 4) (f : Carousel → Carousel) : (s.modCar k f).orders = s.orders := rfl
@[simp] theorem State.modCar_week (k : Fin 4) (f : Carousel → Carousel) : (s.modCar k f).week = s.week := rfl
@[simp] theorem State.modCar_setSpread (k : Fin 4) (f : Carousel → Carousel) : (s.modCar k f).setSpread = s.setSpread := rfl
@[simp] theorem State.modCar_cancelMode (k : Fin 4) (f : Carousel → Carousel) : (s.modCar k f).cancelMode = s.cancelMode := rfl
@[simp] theorem State.modCar_lanes (k : Fin 4) (f : Carousel → Carousel) : (s.modCar k f).lanes = s.lanes := rfl
@[simp] theorem State.modCar_laneCap (k : Fin 4) (f : Carousel → Carousel) : (s.modCar k f).laneCap = s.laneCap := rfl
@[simp] theorem State.modCar_transitTimeout (k : Fin 4) (f : Carousel → Carousel) : (s.modCar k f).transitTimeout = s.transitTimeout := rfl
@[simp] theorem State.modCar_laneClock (k : Fin 4) (f : Carousel → Carousel) : (s.modCar k f).laneClock = s.laneClock := rfl
@[simp] theorem State.modCar_gaugeSpan (k : Fin 4) (f : Carousel → Carousel) : (s.modCar k f).gaugeSpan = s.gaugeSpan := rfl
@[simp] theorem State.modCar_entries (k : Fin 4) (f : Carousel → Carousel) : (s.modCar k f).entries = s.entries := rfl
@[simp] theorem State.modCar_link (k : Fin 4) (f : Carousel → Carousel) : (s.modCar k f).link = s.link := rfl
@[simp] theorem State.modCar_estop (k : Fin 4) (f : Carousel → Carousel) : (s.modCar k f).estop = s.estop := rfl
@[simp] theorem State.modCar_idleTicks (k : Fin 4) (f : Carousel → Carousel) : (s.modCar k f).idleTicks = s.idleTicks := rfl
@[simp] theorem State.modCar_pending (k : Fin 4) (f : Carousel → Carousel) : (s.modCar k f).pending = s.pending := rfl

@[simp] theorem State.setLane_carousels (l : Fin 8) (x : Lane) : (s.setLane l x).carousels = s.carousels := rfl
@[simp] theorem State.setLane_widths (l : Fin 8) (x : Lane) : (s.setLane l x).widths = s.widths := rfl
@[simp] theorem State.setLane_articles (l : Fin 8) (x : Lane) : (s.setLane l x).articles = s.articles := rfl
@[simp] theorem State.setLane_corrections (l : Fin 8) (x : Lane) : (s.setLane l x).corrections = s.corrections := rfl
@[simp] theorem State.setLane_waiting (l : Fin 8) (x : Lane) : (s.setLane l x).waiting = s.waiting := rfl
@[simp] theorem State.setLane_nextTask (l : Fin 8) (x : Lane) : (s.setLane l x).nextTask = s.nextTask := rfl
@[simp] theorem State.setLane_workSeq (l : Fin 8) (x : Lane) : (s.setLane l x).workSeq = s.workSeq := rfl
@[simp] theorem State.setLane_workSeqSpent (l : Fin 8) (x : Lane) : (s.setLane l x).workSeqSpent = s.workSeqSpent := rfl
@[simp] theorem State.setLane_schedClock (l : Fin 8) (x : Lane) : (s.setLane l x).schedClock = s.schedClock := rfl
@[simp] theorem State.setLane_stores (l : Fin 8) (x : Lane) : (s.setLane l x).stores = s.stores := rfl
@[simp] theorem State.setLane_lastStore (l : Fin 8) (x : Lane) : (s.setLane l x).lastStore = s.lastStore := rfl
@[simp] theorem State.setLane_orders (l : Fin 8) (x : Lane) : (s.setLane l x).orders = s.orders := rfl
@[simp] theorem State.setLane_week (l : Fin 8) (x : Lane) : (s.setLane l x).week = s.week := rfl
@[simp] theorem State.setLane_setSpread (l : Fin 8) (x : Lane) : (s.setLane l x).setSpread = s.setSpread := rfl
@[simp] theorem State.setLane_cancelMode (l : Fin 8) (x : Lane) : (s.setLane l x).cancelMode = s.cancelMode := rfl
@[simp] theorem State.setLane_laneCap (l : Fin 8) (x : Lane) : (s.setLane l x).laneCap = s.laneCap := rfl
@[simp] theorem State.setLane_transitTimeout (l : Fin 8) (x : Lane) : (s.setLane l x).transitTimeout = s.transitTimeout := rfl
@[simp] theorem State.setLane_laneClock (l : Fin 8) (x : Lane) : (s.setLane l x).laneClock = s.laneClock := rfl
@[simp] theorem State.setLane_gaugeSpan (l : Fin 8) (x : Lane) : (s.setLane l x).gaugeSpan = s.gaugeSpan := rfl
@[simp] theorem State.setLane_entries (l : Fin 8) (x : Lane) : (s.setLane l x).entries = s.entries := rfl
@[simp] theorem State.setLane_link (l : Fin 8) (x : Lane) : (s.setLane l x).link = s.link := rfl
@[simp] theorem State.setLane_estop (l : Fin 8) (x : Lane) : (s.setLane l x).estop = s.estop := rfl
@[simp] theorem State.setLane_idleTicks (l : Fin 8) (x : Lane) : (s.setLane l x).idleTicks = s.idleTicks := rfl
@[simp] theorem State.setLane_pending (l : Fin 8) (x : Lane) : (s.setLane l x).pending = s.pending := rfl

@[simp] theorem State.setOrder_carousels (o : Fin 32) (x : Option Order) : (s.setOrder o x).carousels = s.carousels := rfl
@[simp] theorem State.setOrder_widths (o : Fin 32) (x : Option Order) : (s.setOrder o x).widths = s.widths := rfl
@[simp] theorem State.setOrder_articles (o : Fin 32) (x : Option Order) : (s.setOrder o x).articles = s.articles := rfl
@[simp] theorem State.setOrder_corrections (o : Fin 32) (x : Option Order) : (s.setOrder o x).corrections = s.corrections := rfl
@[simp] theorem State.setOrder_waiting (o : Fin 32) (x : Option Order) : (s.setOrder o x).waiting = s.waiting := rfl
@[simp] theorem State.setOrder_nextTask (o : Fin 32) (x : Option Order) : (s.setOrder o x).nextTask = s.nextTask := rfl
@[simp] theorem State.setOrder_workSeq (o : Fin 32) (x : Option Order) : (s.setOrder o x).workSeq = s.workSeq := rfl
@[simp] theorem State.setOrder_workSeqSpent (o : Fin 32) (x : Option Order) : (s.setOrder o x).workSeqSpent = s.workSeqSpent := rfl
@[simp] theorem State.setOrder_schedClock (o : Fin 32) (x : Option Order) : (s.setOrder o x).schedClock = s.schedClock := rfl
@[simp] theorem State.setOrder_stores (o : Fin 32) (x : Option Order) : (s.setOrder o x).stores = s.stores := rfl
@[simp] theorem State.setOrder_lastStore (o : Fin 32) (x : Option Order) : (s.setOrder o x).lastStore = s.lastStore := rfl
@[simp] theorem State.setOrder_week (o : Fin 32) (x : Option Order) : (s.setOrder o x).week = s.week := rfl
@[simp] theorem State.setOrder_setSpread (o : Fin 32) (x : Option Order) : (s.setOrder o x).setSpread = s.setSpread := rfl
@[simp] theorem State.setOrder_cancelMode (o : Fin 32) (x : Option Order) : (s.setOrder o x).cancelMode = s.cancelMode := rfl
@[simp] theorem State.setOrder_lanes (o : Fin 32) (x : Option Order) : (s.setOrder o x).lanes = s.lanes := rfl
@[simp] theorem State.setOrder_laneCap (o : Fin 32) (x : Option Order) : (s.setOrder o x).laneCap = s.laneCap := rfl
@[simp] theorem State.setOrder_transitTimeout (o : Fin 32) (x : Option Order) : (s.setOrder o x).transitTimeout = s.transitTimeout := rfl
@[simp] theorem State.setOrder_laneClock (o : Fin 32) (x : Option Order) : (s.setOrder o x).laneClock = s.laneClock := rfl
@[simp] theorem State.setOrder_gaugeSpan (o : Fin 32) (x : Option Order) : (s.setOrder o x).gaugeSpan = s.gaugeSpan := rfl
@[simp] theorem State.setOrder_entries (o : Fin 32) (x : Option Order) : (s.setOrder o x).entries = s.entries := rfl
@[simp] theorem State.setOrder_link (o : Fin 32) (x : Option Order) : (s.setOrder o x).link = s.link := rfl
@[simp] theorem State.setOrder_estop (o : Fin 32) (x : Option Order) : (s.setOrder o x).estop = s.estop := rfl
@[simp] theorem State.setOrder_idleTicks (o : Fin 32) (x : Option Order) : (s.setOrder o x).idleTicks = s.idleTicks := rfl
@[simp] theorem State.setOrder_pending (o : Fin 32) (x : Option Order) : (s.setOrder o x).pending = s.pending := rfl

@[simp] theorem State.setStore_carousels (q : Fin 16) (x : Option Store) : (s.setStore q x).carousels = s.carousels := rfl
@[simp] theorem State.setStore_widths (q : Fin 16) (x : Option Store) : (s.setStore q x).widths = s.widths := rfl
@[simp] theorem State.setStore_articles (q : Fin 16) (x : Option Store) : (s.setStore q x).articles = s.articles := rfl
@[simp] theorem State.setStore_corrections (q : Fin 16) (x : Option Store) : (s.setStore q x).corrections = s.corrections := rfl
@[simp] theorem State.setStore_waiting (q : Fin 16) (x : Option Store) : (s.setStore q x).waiting = s.waiting := rfl
@[simp] theorem State.setStore_nextTask (q : Fin 16) (x : Option Store) : (s.setStore q x).nextTask = s.nextTask := rfl
@[simp] theorem State.setStore_workSeq (q : Fin 16) (x : Option Store) : (s.setStore q x).workSeq = s.workSeq := rfl
@[simp] theorem State.setStore_workSeqSpent (q : Fin 16) (x : Option Store) : (s.setStore q x).workSeqSpent = s.workSeqSpent := rfl
@[simp] theorem State.setStore_schedClock (q : Fin 16) (x : Option Store) : (s.setStore q x).schedClock = s.schedClock := rfl
@[simp] theorem State.setStore_lastStore (q : Fin 16) (x : Option Store) : (s.setStore q x).lastStore = s.lastStore := rfl
@[simp] theorem State.setStore_orders (q : Fin 16) (x : Option Store) : (s.setStore q x).orders = s.orders := rfl
@[simp] theorem State.setStore_week (q : Fin 16) (x : Option Store) : (s.setStore q x).week = s.week := rfl
@[simp] theorem State.setStore_setSpread (q : Fin 16) (x : Option Store) : (s.setStore q x).setSpread = s.setSpread := rfl
@[simp] theorem State.setStore_cancelMode (q : Fin 16) (x : Option Store) : (s.setStore q x).cancelMode = s.cancelMode := rfl
@[simp] theorem State.setStore_lanes (q : Fin 16) (x : Option Store) : (s.setStore q x).lanes = s.lanes := rfl
@[simp] theorem State.setStore_laneCap (q : Fin 16) (x : Option Store) : (s.setStore q x).laneCap = s.laneCap := rfl
@[simp] theorem State.setStore_transitTimeout (q : Fin 16) (x : Option Store) : (s.setStore q x).transitTimeout = s.transitTimeout := rfl
@[simp] theorem State.setStore_laneClock (q : Fin 16) (x : Option Store) : (s.setStore q x).laneClock = s.laneClock := rfl
@[simp] theorem State.setStore_gaugeSpan (q : Fin 16) (x : Option Store) : (s.setStore q x).gaugeSpan = s.gaugeSpan := rfl
@[simp] theorem State.setStore_entries (q : Fin 16) (x : Option Store) : (s.setStore q x).entries = s.entries := rfl
@[simp] theorem State.setStore_link (q : Fin 16) (x : Option Store) : (s.setStore q x).link = s.link := rfl
@[simp] theorem State.setStore_estop (q : Fin 16) (x : Option Store) : (s.setStore q x).estop = s.estop := rfl
@[simp] theorem State.setStore_idleTicks (q : Fin 16) (x : Option Store) : (s.setStore q x).idleTicks = s.idleTicks := rfl
@[simp] theorem State.setStore_pending (q : Fin 16) (x : Option Store) : (s.setStore q x).pending = s.pending := rfl

@[simp] theorem State.setArticle_carousels (q : Fin 256) (x : Option Article) : (s.setArticle q x).carousels = s.carousels := rfl
@[simp] theorem State.setArticle_widths (q : Fin 256) (x : Option Article) : (s.setArticle q x).widths = s.widths := rfl
@[simp] theorem State.setArticle_corrections (q : Fin 256) (x : Option Article) : (s.setArticle q x).corrections = s.corrections := rfl
@[simp] theorem State.setArticle_waiting (q : Fin 256) (x : Option Article) : (s.setArticle q x).waiting = s.waiting := rfl
@[simp] theorem State.setArticle_nextTask (q : Fin 256) (x : Option Article) : (s.setArticle q x).nextTask = s.nextTask := rfl
@[simp] theorem State.setArticle_workSeq (q : Fin 256) (x : Option Article) : (s.setArticle q x).workSeq = s.workSeq := rfl
@[simp] theorem State.setArticle_workSeqSpent (q : Fin 256) (x : Option Article) : (s.setArticle q x).workSeqSpent = s.workSeqSpent := rfl
@[simp] theorem State.setArticle_schedClock (q : Fin 256) (x : Option Article) : (s.setArticle q x).schedClock = s.schedClock := rfl
@[simp] theorem State.setArticle_stores (q : Fin 256) (x : Option Article) : (s.setArticle q x).stores = s.stores := rfl
@[simp] theorem State.setArticle_lastStore (q : Fin 256) (x : Option Article) : (s.setArticle q x).lastStore = s.lastStore := rfl
@[simp] theorem State.setArticle_orders (q : Fin 256) (x : Option Article) : (s.setArticle q x).orders = s.orders := rfl
@[simp] theorem State.setArticle_week (q : Fin 256) (x : Option Article) : (s.setArticle q x).week = s.week := rfl
@[simp] theorem State.setArticle_setSpread (q : Fin 256) (x : Option Article) : (s.setArticle q x).setSpread = s.setSpread := rfl
@[simp] theorem State.setArticle_cancelMode (q : Fin 256) (x : Option Article) : (s.setArticle q x).cancelMode = s.cancelMode := rfl
@[simp] theorem State.setArticle_lanes (q : Fin 256) (x : Option Article) : (s.setArticle q x).lanes = s.lanes := rfl
@[simp] theorem State.setArticle_laneCap (q : Fin 256) (x : Option Article) : (s.setArticle q x).laneCap = s.laneCap := rfl
@[simp] theorem State.setArticle_transitTimeout (q : Fin 256) (x : Option Article) : (s.setArticle q x).transitTimeout = s.transitTimeout := rfl
@[simp] theorem State.setArticle_laneClock (q : Fin 256) (x : Option Article) : (s.setArticle q x).laneClock = s.laneClock := rfl
@[simp] theorem State.setArticle_gaugeSpan (q : Fin 256) (x : Option Article) : (s.setArticle q x).gaugeSpan = s.gaugeSpan := rfl
@[simp] theorem State.setArticle_entries (q : Fin 256) (x : Option Article) : (s.setArticle q x).entries = s.entries := rfl
@[simp] theorem State.setArticle_link (q : Fin 256) (x : Option Article) : (s.setArticle q x).link = s.link := rfl
@[simp] theorem State.setArticle_estop (q : Fin 256) (x : Option Article) : (s.setArticle q x).estop = s.estop := rfl
@[simp] theorem State.setArticle_idleTicks (q : Fin 256) (x : Option Article) : (s.setArticle q x).idleTicks = s.idleTicks := rfl
@[simp] theorem State.setArticle_pending (q : Fin 256) (x : Option Article) : (s.setArticle q x).pending = s.pending := rfl

@[simp] theorem State.reply_carousels (kind tag : Nat) (st : Status) (fs : List Field) :
    (s.reply kind tag st fs).carousels = s.carousels := rfl
@[simp] theorem State.reply_widths (kind tag : Nat) (st : Status) (fs : List Field) :
    (s.reply kind tag st fs).widths = s.widths := rfl
@[simp] theorem State.reply_articles (kind tag : Nat) (st : Status) (fs : List Field) :
    (s.reply kind tag st fs).articles = s.articles := rfl
@[simp] theorem State.reply_corrections (kind tag : Nat) (st : Status) (fs : List Field) :
    (s.reply kind tag st fs).corrections = s.corrections := rfl
@[simp] theorem State.reply_waiting (kind tag : Nat) (st : Status) (fs : List Field) :
    (s.reply kind tag st fs).waiting = s.waiting := rfl
@[simp] theorem State.reply_nextTask (kind tag : Nat) (st : Status) (fs : List Field) :
    (s.reply kind tag st fs).nextTask = s.nextTask := rfl
@[simp] theorem State.reply_workSeq (kind tag : Nat) (st : Status) (fs : List Field) :
    (s.reply kind tag st fs).workSeq = s.workSeq := rfl
@[simp] theorem State.reply_workSeqSpent (kind tag : Nat) (st : Status) (fs : List Field) :
    (s.reply kind tag st fs).workSeqSpent = s.workSeqSpent := rfl
@[simp] theorem State.reply_schedClock (kind tag : Nat) (st : Status) (fs : List Field) :
    (s.reply kind tag st fs).schedClock = s.schedClock := rfl
@[simp] theorem State.reply_stores (kind tag : Nat) (st : Status) (fs : List Field) :
    (s.reply kind tag st fs).stores = s.stores := rfl
@[simp] theorem State.reply_lastStore (kind tag : Nat) (st : Status) (fs : List Field) :
    (s.reply kind tag st fs).lastStore = s.lastStore := rfl
@[simp] theorem State.reply_orders (kind tag : Nat) (st : Status) (fs : List Field) :
    (s.reply kind tag st fs).orders = s.orders := rfl
@[simp] theorem State.reply_week (kind tag : Nat) (st : Status) (fs : List Field) :
    (s.reply kind tag st fs).week = s.week := rfl
@[simp] theorem State.reply_setSpread (kind tag : Nat) (st : Status) (fs : List Field) :
    (s.reply kind tag st fs).setSpread = s.setSpread := rfl
@[simp] theorem State.reply_cancelMode (kind tag : Nat) (st : Status) (fs : List Field) :
    (s.reply kind tag st fs).cancelMode = s.cancelMode := rfl
@[simp] theorem State.reply_lanes (kind tag : Nat) (st : Status) (fs : List Field) :
    (s.reply kind tag st fs).lanes = s.lanes := rfl
@[simp] theorem State.reply_laneCap (kind tag : Nat) (st : Status) (fs : List Field) :
    (s.reply kind tag st fs).laneCap = s.laneCap := rfl
@[simp] theorem State.reply_transitTimeout (kind tag : Nat) (st : Status) (fs : List Field) :
    (s.reply kind tag st fs).transitTimeout = s.transitTimeout := rfl
@[simp] theorem State.reply_laneClock (kind tag : Nat) (st : Status) (fs : List Field) :
    (s.reply kind tag st fs).laneClock = s.laneClock := rfl
@[simp] theorem State.reply_gaugeSpan (kind tag : Nat) (st : Status) (fs : List Field) :
    (s.reply kind tag st fs).gaugeSpan = s.gaugeSpan := rfl
@[simp] theorem State.reply_entries (kind tag : Nat) (st : Status) (fs : List Field) :
    (s.reply kind tag st fs).entries = s.entries := rfl
@[simp] theorem State.reply_estop (kind tag : Nat) (st : Status) (fs : List Field) :
    (s.reply kind tag st fs).estop = s.estop := rfl
@[simp] theorem State.reply_idleTicks (kind tag : Nat) (st : Status) (fs : List Field) :
    (s.reply kind tag st fs).idleTicks = s.idleTicks := rfl
@[simp] theorem State.reply_pending (kind tag : Nat) (st : Status) (fs : List Field) :
    (s.reply kind tag st fs).pending = s.pending := rfl
@[simp] theorem State.reply_link_rate (kind tag : Nat) (st : Status) (fs : List Field) :
    (s.reply kind tag st fs).link.rate = s.link.rate := rfl
@[simp] theorem State.reply_link_receiver (kind tag : Nat) (st : Status) (fs : List Field) :
    (s.reply kind tag st fs).link.receiver = s.link.receiver := rfl
@[simp] theorem State.reply_link_gap (kind tag : Nat) (st : Status) (fs : List Field) :
    (s.reply kind tag st fs).link.gap = s.link.gap := rfl
@[simp] theorem State.reply_link_received (kind tag : Nat) (st : Status) (fs : List Field) :
    (s.reply kind tag st fs).link.received = s.link.received := rfl
@[simp] theorem State.reply_link_discarded (kind tag : Nat) (st : Status) (fs : List Field) :
    (s.reply kind tag st fs).link.discarded = s.link.discarded := rfl
@[simp] theorem State.reply_link_refused (kind tag : Nat) (st : Status) (fs : List Field) :
    (s.reply kind tag st fs).link.refused = s.link.refused := rfl
@[simp] theorem State.reply_link_sending (kind tag : Nat) (st : Status) (fs : List Field) :
    (s.reply kind tag st fs).link.sending = s.link.sending := rfl
@[simp] theorem State.reply_link_lastSource (kind tag : Nat) (st : Status) (fs : List Field) :
    (s.reply kind tag st fs).link.lastSource = s.link.lastSource := rfl
@[simp] theorem State.reply_link_notices (kind tag : Nat) (st : Status) (fs : List Field) :
    (s.reply kind tag st fs).link.notices = s.link.notices := rfl
@[simp] theorem State.reply_link_lastNumber (kind tag : Nat) (st : Status) (fs : List Field) :
    (s.reply kind tag st fs).link.lastNumber = s.link.lastNumber := rfl
@[simp] theorem State.reply_link_lost (kind tag : Nat) (st : Status) (fs : List Field) :
    (s.reply kind tag st fs).link.lost = s.link.lost := rfl
@[simp] theorem State.reply_link_replies (kind tag : Nat) (st : Status) (fs : List Field) :
    (s.reply kind tag st fs).link.replies = s.link.replies ++ [⟨kind, tag, st, fs, true⟩] := rfl

@[simp] theorem State.raise_carousels (kind : NoticeKind) (fs : List Field) : (s.raise kind fs).carousels = s.carousels := by
  unfold State.raise; split <;> rfl
@[simp] theorem State.raise_widths (kind : NoticeKind) (fs : List Field) : (s.raise kind fs).widths = s.widths := by
  unfold State.raise; split <;> rfl
@[simp] theorem State.raise_articles (kind : NoticeKind) (fs : List Field) : (s.raise kind fs).articles = s.articles := by
  unfold State.raise; split <;> rfl
@[simp] theorem State.raise_corrections (kind : NoticeKind) (fs : List Field) : (s.raise kind fs).corrections = s.corrections := by
  unfold State.raise; split <;> rfl
@[simp] theorem State.raise_waiting (kind : NoticeKind) (fs : List Field) : (s.raise kind fs).waiting = s.waiting := by
  unfold State.raise; split <;> rfl
@[simp] theorem State.raise_nextTask (kind : NoticeKind) (fs : List Field) : (s.raise kind fs).nextTask = s.nextTask := by
  unfold State.raise; split <;> rfl
@[simp] theorem State.raise_workSeq (kind : NoticeKind) (fs : List Field) : (s.raise kind fs).workSeq = s.workSeq := by
  unfold State.raise; split <;> rfl
@[simp] theorem State.raise_workSeqSpent (kind : NoticeKind) (fs : List Field) : (s.raise kind fs).workSeqSpent = s.workSeqSpent := by
  unfold State.raise; split <;> rfl
@[simp] theorem State.raise_schedClock (kind : NoticeKind) (fs : List Field) : (s.raise kind fs).schedClock = s.schedClock := by
  unfold State.raise; split <;> rfl
@[simp] theorem State.raise_stores (kind : NoticeKind) (fs : List Field) : (s.raise kind fs).stores = s.stores := by
  unfold State.raise; split <;> rfl
@[simp] theorem State.raise_lastStore (kind : NoticeKind) (fs : List Field) : (s.raise kind fs).lastStore = s.lastStore := by
  unfold State.raise; split <;> rfl
@[simp] theorem State.raise_orders (kind : NoticeKind) (fs : List Field) : (s.raise kind fs).orders = s.orders := by
  unfold State.raise; split <;> rfl
@[simp] theorem State.raise_week (kind : NoticeKind) (fs : List Field) : (s.raise kind fs).week = s.week := by
  unfold State.raise; split <;> rfl
@[simp] theorem State.raise_setSpread (kind : NoticeKind) (fs : List Field) : (s.raise kind fs).setSpread = s.setSpread := by
  unfold State.raise; split <;> rfl
@[simp] theorem State.raise_cancelMode (kind : NoticeKind) (fs : List Field) : (s.raise kind fs).cancelMode = s.cancelMode := by
  unfold State.raise; split <;> rfl
@[simp] theorem State.raise_lanes (kind : NoticeKind) (fs : List Field) : (s.raise kind fs).lanes = s.lanes := by
  unfold State.raise; split <;> rfl
@[simp] theorem State.raise_laneCap (kind : NoticeKind) (fs : List Field) : (s.raise kind fs).laneCap = s.laneCap := by
  unfold State.raise; split <;> rfl
@[simp] theorem State.raise_transitTimeout (kind : NoticeKind) (fs : List Field) : (s.raise kind fs).transitTimeout = s.transitTimeout := by
  unfold State.raise; split <;> rfl
@[simp] theorem State.raise_laneClock (kind : NoticeKind) (fs : List Field) : (s.raise kind fs).laneClock = s.laneClock := by
  unfold State.raise; split <;> rfl
@[simp] theorem State.raise_gaugeSpan (kind : NoticeKind) (fs : List Field) : (s.raise kind fs).gaugeSpan = s.gaugeSpan := by
  unfold State.raise; split <;> rfl
@[simp] theorem State.raise_entries (kind : NoticeKind) (fs : List Field) : (s.raise kind fs).entries = s.entries := by
  unfold State.raise; split <;> rfl
@[simp] theorem State.raise_estop (kind : NoticeKind) (fs : List Field) : (s.raise kind fs).estop = s.estop := by
  unfold State.raise; split <;> rfl
@[simp] theorem State.raise_idleTicks (kind : NoticeKind) (fs : List Field) : (s.raise kind fs).idleTicks = s.idleTicks := by
  unfold State.raise; split <;> rfl
@[simp] theorem State.raise_pending (kind : NoticeKind) (fs : List Field) : (s.raise kind fs).pending = s.pending := by
  unfold State.raise; split <;> rfl
@[simp] theorem State.raise_link_rate (kind : NoticeKind) (fs : List Field) :
    (s.raise kind fs).link.rate = s.link.rate := by
  unfold State.raise; split <;> rfl
@[simp] theorem State.raise_link_receiver (kind : NoticeKind) (fs : List Field) :
    (s.raise kind fs).link.receiver = s.link.receiver := by
  unfold State.raise; split <;> rfl
@[simp] theorem State.raise_link_gap (kind : NoticeKind) (fs : List Field) :
    (s.raise kind fs).link.gap = s.link.gap := by
  unfold State.raise; split <;> rfl
@[simp] theorem State.raise_link_received (kind : NoticeKind) (fs : List Field) :
    (s.raise kind fs).link.received = s.link.received := by
  unfold State.raise; split <;> rfl
@[simp] theorem State.raise_link_replies (kind : NoticeKind) (fs : List Field) :
    (s.raise kind fs).link.replies = s.link.replies := by
  unfold State.raise; split <;> rfl
@[simp] theorem State.raise_link_discarded (kind : NoticeKind) (fs : List Field) :
    (s.raise kind fs).link.discarded = s.link.discarded := by
  unfold State.raise; split <;> rfl
@[simp] theorem State.raise_link_refused (kind : NoticeKind) (fs : List Field) :
    (s.raise kind fs).link.refused = s.link.refused := by
  unfold State.raise; split <;> rfl
@[simp] theorem State.raise_link_sending (kind : NoticeKind) (fs : List Field) :
    (s.raise kind fs).link.sending = s.link.sending := by
  unfold State.raise; split <;> rfl
@[simp] theorem State.raise_link_lastSource (kind : NoticeKind) (fs : List Field) :
    (s.raise kind fs).link.lastSource = s.link.lastSource := by
  unfold State.raise; split <;> rfl
@[simp] theorem State.raise_link_lastNumber (kind : NoticeKind) (fs : List Field) :
    (s.raise kind fs).link.lastNumber = (s.link.lastNumber + 1) % 65536 := by
  unfold State.raise; split <;> rfl

end Sys2Proof.Machine
end

