-- ==== Sys2Proof/Laws/Close.lean ====
section
/-! SUPPORT. What reads do to a sound slot memory, and what the close of a calm event does: nothing. -/

namespace Sys2Proof.Machine

/-! ## forEach -/

@[simp] theorem State.forEach_nil {α : Type} (f : α → State → State) (s : State) : s.forEach [] f = s := rfl

theorem State.forEach_cons {α : Type} (x : α) (xs : List α) (f : α → State → State) (s : State) :
    s.forEach (x :: xs) f = (f x s).forEach xs f := rfl

theorem State.forEach_append {α : Type} (xs ys : List α) (f : α → State → State) (s : State) :
    s.forEach (xs ++ ys) f = (s.forEach xs f).forEach ys f := List.foldl_append

theorem shownLast_perm (ts : List Task) : (shownLast ts).Perm ts := by
  simpa [shownLast] using List.filter_append_perm (fun t : Task => decide (t.state ≠ .shown)) ts

/-- A drop or a cancel gives up its tasks that are not SHOWN, and then its SHOWN ones (R101, R125, steps 1 and 2). -/
theorem State.giveUpAll_eq (ts : List Task) (s : State) :
    s.giveUpAll ts = (s.forEach (ts.filter (·.state ≠ .shown)) (State.giveUp none)).forEach
      (ts.filter (·.state = .shown)) (State.giveUp none) := State.forEach_append _ _ _ s

theorem State.forEach_eq_self {α : Type} {f : α → State → State} {s : State} :
    ∀ {xs : List α}, (∀ x ∈ xs, f x s = s) → s.forEach xs f = s
  | [], _ => rfl
  | x :: xs, h => by
    rw [State.forEach_cons, h x (by simp)]
    exact State.forEach_eq_self fun y hy => h y (by simp [hy])

/-! ## Sound memory -/

theorem State.Sound.slot {s : State} (h : s.Sound) (a : SlotAddr) : (s.slot a).damage = .sound := by
  unfold State.slot Carousel.slot
  cases e : (s.car a.carousel).slots[(s.car a.carousel).index a.carrier a.column]? with
  | none => rfl
  | some r => exact h _ r (List.mem_of_getElem? e)

theorem State.touch_of_sound {s : State} {a : SlotAddr} (h : (s.slot a).damage = .sound) : s.touch a = s := by
  simp [State.touch, h]

theorem State.mend_of_sound {s : State} {a : SlotAddr} (h : (s.slot a).damage = .sound) : s.mend a = s := by
  simp [State.mend, h]

theorem State.Sound.touchAll {s : State} (h : s.Sound) (as : List SlotAddr) : s.touchAll as = s :=
  State.forEach_eq_self fun a _ => State.touch_of_sound (h.slot a)

theorem State.Sound.scan {s : State} (h : s.Sound) : s.scan = s := h.touchAll _

theorem State.Sound.unreadableOn {s : State} (h : s.Sound) (k : Fin 4) (c : Nat) : s.unreadableOn k c = [] := by
  simp [State.unreadableOn, Slot.unreadable, h.slot]

theorem State.Sound.rebalance {s : State} (h : s.Sound) (k : Fin 4) (c : Nat) : s.rebalance k c = s.reweigh k c := by
  unfold State.rebalance
  rw [State.forEach_eq_self fun a _ => State.mend_of_sound (h.slot a), h.unreadableOn, List.reverse_nil, State.forEach_nil]

theorem State.Sound.putSlot {s : State} (h : s.Sound) (a : SlotAddr) (r : Slot) : (s.putSlot a r).Sound := by
  intro k x hx
  rw [State.putSlot, State.car_modCar] at hx
  split at hx
  · rcases List.mem_or_eq_of_mem_set hx with hx | rfl
    · exact h _ x hx
    · rfl
  · exact h _ x hx

theorem State.Sound.flagSlot {s : State} (h : s.Sound) (a : SlotAddr) (f : Slot → Slot) :
    s.flagSlot a f = s.putSlot a (f (s.slot a)) := by
  simp [State.flagSlot, State.touch_of_sound (h.slot a)]

theorem State.Sound.changeSlot {s : State} (h : s.Sound) (a : SlotAddr) (f : Slot → Slot) :
    s.changeSlot a f = (s.putSlot a (f (s.slot a))).reweigh a.carousel a.carrier := by
  simp [State.changeSlot, State.touch_of_sound (h.slot a), (h.putSlot a _).rebalance]

/-! ## Calm events -/

theorem Carousel.Calm.refl (c : Carousel) : c.Calm c := ⟨rfl, rfl, rfl, rfl, id, rfl, id⟩

theorem State.Calm.refl (s : State) : s.Calm s := ⟨rfl, rfl, rfl, rfl, rfl, fun _ => .refl _⟩

/-- A change of one carousel that is calm for it is calm for the state. -/
theorem State.Calm.modCar (s : State) (k : Fin 4) {f : Carousel → Carousel} (h : (s.car k).Calm (f (s.car k))) :
    s.Calm (s.modCar k f) := by
  refine ⟨rfl, rfl, rfl, rfl, rfl, fun j => ?_⟩
  rw [State.car_modCar]
  split
  · next e => subst e; exact h
  · exact .refl _

theorem State.Calm.raise {before s : State} (h : before.Calm s) (kind : NoticeKind) (fs : List Field) :
    before.Calm (s.raise kind fs) := by
  refine ⟨?_, ?_, ?_, ?_, ?_, fun k => ?_⟩ <;> simp only [State.raise_lanes, State.raise_orders, State.raise_stores,
    State.raise_waiting, State.raise_entries, State.car_raise]
  exacts [h.lanes, h.orders, h.stores, h.waiting, h.entries, h.cars k]

theorem State.evalMarks_of_proj {before s : State} (h : ∀ k, (before.car k).proj = (s.car k).proj) :
    s.evalMarks before = s := by
  refine State.forEach_eq_self fun k _ => ?_
  rw [if_pos (h k)]

theorem Carousel.flagsCleared_of_flags {before c : Carousel} (h : c.flags = before.flags) :
    before.flagsCleared c = false := by
  unfold Carousel.flagsCleared
  rw [List.any_eq_false]
  intro p hp
  obtain ⟨i, hi⟩ := List.mem_iff_getElem?.1 hp
  rw [List.getElem?_zip_eq_some] at hi
  have e : c.flags[i]? = before.flags[i]? := by rw [h]
  simp only [Carousel.flags, List.getElem?_map, hi.1, hi.2, Option.map_some, Option.some.injEq, Prod.mk.injEq] at e
  rw [e.1, e.2.2]
  cases p.1.due <;> cases p.1.suspect <;> simp

theorem Carousel.Calm.auditTouched {before c : Carousel} (h : before.Calm c) : before.auditTouched c = false := by
  simp only [Carousel.auditTouched, Carousel.flagsCleared_of_flags h.flags, h.hold]
  by_cases e : before.audit = .none
  · simp [e, h.audit e]
  · simp [e]

theorem State.Calm.testAudits {before s : State} (h : before.Calm s) : s.testAudits before = s := by
  refine State.forEach_eq_self fun k _ => ?_
  rw [(h.cars k).auditTouched, if_neg (by simp)]

theorem State.Calm.offerDue {before s : State} (h : before.Calm s) (k : Fin 4) : before.offerDue s k = false := by
  have c := h.cars k
  have hl : before.listFull = s.listFull := by simp [State.listFull, h.entries]
  have hf : (before.car k).flags = (s.car k).flags := c.flags.symm
  simp only [State.offerDue, hl, hf, c.queue, c.zones, c.hold]
  by_cases e : (s.car k).state = .idle
  · simp [e, c.idle e]
  · simp [e]

theorem State.Calm.offers {before s : State} (h : before.Calm s) : s.offers before = s := by
  refine State.forEach_eq_self fun k _ => ?_
  rw [h.offerDue, if_neg (by simp)]

theorem State.Calm.order? {before s : State} (h : before.Calm s) (o : Fin 32) : before.order? o = s.order? o := by
  simp [State.order?, h.orders]

theorem State.Calm.lane {before s : State} (h : before.Calm s) (l : Fin 8) : before.lane l = s.lane l := by
  simp [State.lane, h.lanes]

theorem State.Calm.allTasks {before s : State} (h : before.Calm s) : before.allTasks = s.allTasks := by
  have hq : ∀ k, (s.car k).queue = (before.car k).queue := fun k => (h.cars k).queue
  simp [State.allTasks, h.waiting, hq]

theorem State.Calm.judgeLanes {before s : State} (h : before.Calm s) : s.judgeLanes before = s := by
  refine State.forEach_eq_self fun l _ => ?_
  rw [if_neg]
  simp [State.laneTouched, h.lane, h.order?, State.orderTasks, State.tasksWhere, h.allTasks]

theorem State.Calm.arbiterDue {before s : State} (h : before.Calm s) : before.arbiterDue s = false := by
  simp [State.arbiterDue, State.orderIs, h.order?, h.lane]

theorem State.Calm.fillDue {before s : State} (h : before.Calm s) : before.fillDue s = false := by
  simp [State.fillDue, h.waiting, h.orders, h.stores, (h.cars _).queue]

theorem State.Calm.evalMarks {before s : State} (h : before.Calm s) : s.evalMarks before = s :=
  State.evalMarks_of_proj fun k => (h.cars k).proj.symm

theorem State.closeOffers_of_calm : ∀ (f : Nat) {before s : State}, before.Calm s → s.closeOffers f before = s
  | 0, _, _, _ => rfl
  | f + 1, before, s, h => by
    simp only [State.closeOffers, h.offers, (State.Calm.refl s).testAudits]
    exact State.closeOffers_of_calm f (State.Calm.refl s)

/-- The close of a calm event changes nothing. -/
theorem State.close_of_calm {before s : State} (h : before.Calm s) : s.close false before = s := by
  simp [State.close, State.closeWork, h.judgeLanes, h.arbiterDue, h.evalMarks, h.testAudits, State.closeQueues, h.fillDue,
    State.closeOffers_of_calm 3 h, (State.Calm.refl s).evalMarks]

/-- An event that changed nothing closes with nothing. -/
@[simp] theorem State.close_self (s : State) : s.close false s = s := State.close_of_calm (.refl s)

end Sys2Proof.Machine
end

