-- ==== Sys2Proof/Laws/Kept.lean ====
section
/-! SUPPORT. What every shared operation keeps of the state, said once for each: `State.Kept`. -/

namespace Sys2Proof.Machine

/-! ## A preorder -/

/-- The parts of a carousel that `Carousel.Kept` speaks of. -/
def Carousel.base (c : Carousel) : Geometry × Vector (Option Zone) 4 × Nat × Nat × Nat × Limits × Option Limits × Nat × Nat × Nat :=
  (c.geometry, c.zones, c.slots.length, c.phys.length, c.proj.length, c.limits, c.staged, c.queue.length, c.found, c.generation)

theorem Carousel.Kept.of_base {c c' : Carousel} (h : c'.base = c.base) : c.Kept c' := by
  simp only [Carousel.base, Prod.mk.injEq] at h
  obtain ⟨h1, h2, h3, h4, h5, h6, h7, h8, h9, h10⟩ := h
  exact ⟨h1, h2, h3, h4, h5, .inl h6, .inl h7, h8 ▸ le_max_left _ _, h9 ▸ le_max_left _ _, h10 ▸ le_max_left _ _⟩

theorem Carousel.Kept.refl (c : Carousel) : c.Kept c := .of_base rfl

theorem Carousel.Kept.trans {a b c : Carousel} (h : a.Kept b) (g : b.Kept c) : a.Kept c where
  geometry := g.geometry.trans h.geometry
  zones := g.zones.trans h.zones
  slotCount := g.slotCount.trans h.slotCount
  physCount := g.physCount.trans h.physCount
  projCount := g.projCount.trans h.projCount
  limits := by
    rcases g.limits with e | e
    · rw [e]; exact h.limits
    · rcases h.staged with e' | e'
      · exact .inr (e'.symm.trans e)
      · rw [e'] at e; cases e
  staged := by
    rcases g.staged with e | e
    · rw [e]; exact h.staged
    · exact .inr e
  queue := by have := h.queue; have := g.queue; omega
  found := by have := h.found; have := g.found; omega
  generation := by have := h.generation; have := g.generation; omega

/-- The parts of the state that `State.Kept` speaks of, but for the carousels. -/
def State.base (s : State) :=
  ((s.widths, s.articles, s.schedClock, s.week, s.setSpread, s.cancelMode, s.laneCap, s.transitTimeout, s.laneClock,
    s.gaugeSpan, s.estop, s.idleTicks, s.pending),
   (s.link, s.corrections, s.workSeq, s.workSeqSpent, s.lastStore, s.entries))

theorem State.Kept.of_base {s t : State} (h : t.base = s.base) (c : ∀ k, (s.car k).Kept (t.car k)) : s.Kept t := by
  simp only [State.base, Prod.mk.injEq] at h
  obtain ⟨⟨h1, h2, h3, h4, h5, h6, h7, h8, h9, h10, h11, h12, h13⟩, h14, h15, h16, h17, h18, h19⟩ := h
  constructor <;> first | assumption | rw [h14] | rw [h15] | rw [h19]
  all_goals first | exact le_max_left _ _ | exact id

theorem State.Kept.refl (s : State) : s.Kept s := .of_base rfl fun _ => .refl _

theorem State.Kept.trans {a b c : State} (h : a.Kept b) (g : b.Kept c) : a.Kept c where
  widths := g.widths.trans h.widths
  articles := g.articles.trans h.articles
  schedClock := g.schedClock.trans h.schedClock
  week := g.week.trans h.week
  setSpread := g.setSpread.trans h.setSpread
  cancelMode := g.cancelMode.trans h.cancelMode
  laneCap := g.laneCap.trans h.laneCap
  transitTimeout := g.transitTimeout.trans h.transitTimeout
  laneClock := g.laneClock.trans h.laneClock
  gaugeSpan := g.gaugeSpan.trans h.gaugeSpan
  estop := g.estop.trans h.estop
  idleTicks := g.idleTicks.trans h.idleTicks
  pending := g.pending.trans h.pending
  rate := g.rate.trans h.rate
  receiver := g.receiver.trans h.receiver
  gap := g.gap.trans h.gap
  received := g.received.trans h.received
  replies := g.replies.trans h.replies
  discarded := g.discarded.trans h.discarded
  refused := g.refused.trans h.refused
  sending := g.sending.trans h.sending
  lastSource := g.lastSource.trans h.lastSource
  notices := by have := h.notices; have := g.notices; omega
  lost := by have := h.lost; have := g.lost; omega
  lastNumber := by have := h.lastNumber; have := g.lastNumber; omega
  corrections := by have := h.corrections; have := g.corrections; omega
  workSeq := g.workSeq.trans h.workSeq
  workSeqSpent := g.workSeqSpent.trans h.workSeqSpent
  lastStore := g.lastStore.trans h.lastStore
  entries := by have := h.entries; have := g.entries; omega
  oneEach := fun x => g.oneEach (h.oneEach x)
  cars k := (h.cars k).trans (g.cars k)

theorem State.Kept.forEach {α : Type} {f : α → State → State} (h : ∀ (x : α) (s : State), s.Kept (f x s)) :
    ∀ (xs : List α) (s : State), s.Kept (s.forEach xs f)
  | [], s => .refl s
  | x :: xs, s => (h x s).trans (State.Kept.forEach h xs (f x s))

theorem State.Kept.ite {s t u : State} {p : Prop} [Decidable p] (h : s.Kept t) (g : s.Kept u) :
    s.Kept (if p then t else u) := by
  split
  · exact h
  · exact g

/-! ## Primitive updates -/

theorem State.kept_raise (kind : NoticeKind) (fs : List Field) (s : State) : s.Kept (s.raise kind fs) := by
  unfold State.raise
  dsimp only
  split
  · constructor <;> first | rfl | exact le_max_left _ _ | exact id | exact fun _ => .refl _ | skip
    · simp only [List.length_append, List.length_cons, List.length_nil]; omega
    · exact le_trans (Nat.le_of_lt_succ (Nat.mod_lt _ (by decide))) (le_max_right _ _)
  · constructor <;> first | rfl | exact le_max_left _ _ | exact id | exact fun _ => .refl _ | skip
    · exact le_trans (min_le_left _ _) (le_max_right _ _)
    · exact le_trans (Nat.le_of_lt_succ (Nat.mod_lt _ (by decide))) (le_max_right _ _)

theorem State.kept_modCar (k : Fin 4) {f : Carousel → Carousel} (s : State) (h : (s.car k).Kept (f (s.car k))) :
    s.Kept (s.modCar k f) := by
  refine .of_base rfl fun j => ?_
  rw [State.car_modCar]
  split
  · next e => subst e; exact h
  · exact .refl _

theorem State.kept_car (k : Fin 4) {f : Carousel → Carousel} (s : State) (h : (f (s.car k)).base = (s.car k).base) :
    s.Kept (s.modCar k f) := State.kept_modCar k s (.of_base h)

theorem State.kept_setLane (l : Fin 8) (x : Lane) (s : State) : s.Kept (s.setLane l x) := .of_base rfl fun _ => .refl _

theorem State.kept_setOrder (o : Fin 32) (x : Option Order) (s : State) : s.Kept (s.setOrder o x) :=
  .of_base rfl fun _ => .refl _

theorem State.kept_setStore (p : Fin 16) (x : Option Store) (s : State) : s.Kept (s.setStore p x) :=
  .of_base rfl fun _ => .refl _

/-! ## Slot records -/

theorem State.kept_putSlot (a : SlotAddr) (r : Slot) (s : State) : s.Kept (s.putSlot a r) :=
  State.kept_car _ s (by simp [Carousel.base])

theorem State.kept_unmark (a : SlotAddr) (s : State) : s.Kept (s.unmark a) := State.kept_car _ s rfl

theorem State.kept_countCorrection (s : State) : s.Kept s.countCorrection := by
  constructor <;> first | rfl | exact le_max_left _ _ | exact id | exact fun _ => .refl _ | skip
  exact le_trans (min_le_left _ _) (le_max_right _ _)

theorem State.kept_mend (a : SlotAddr) (s : State) : s.Kept (s.mend a) := by
  unfold State.mend
  split
  · exact .refl s
  · exact (State.kept_putSlot a _ s).trans (State.kept_countCorrection _)
  · exact (State.kept_putSlot a _ s).trans (State.kept_unmark a _)

theorem State.kept_raiseSuspect (a : SlotAddr) (s : State) : s.Kept (s.raiseSuspect a) := State.kept_raise _ _ s

theorem State.kept_reweigh (k : Fin 4) (i : Nat) (s : State) : s.Kept (s.reweigh k i) :=
  State.kept_car _ s (by simp [Carousel.base, Carousel.withLoads])

theorem State.kept_rebalance (k : Fin 4) (i : Nat) (s : State) : s.Kept (s.rebalance k i) := by
  unfold State.rebalance
  exact ((State.Kept.forEach State.kept_mend _ s).trans (State.kept_reweigh k i _)).trans
    (State.Kept.forEach State.kept_raiseSuspect _ _)

theorem State.kept_touch (a : SlotAddr) (s : State) : s.Kept (s.touch a) := by
  unfold State.touch
  split
  · exact .refl s
  · exact State.kept_mend a s
  · exact ((State.kept_mend a s).trans (State.kept_rebalance _ _ _)).trans (State.kept_raiseSuspect _ _)

theorem State.kept_touchAll (as : List SlotAddr) (s : State) : s.Kept (s.touchAll as) :=
  State.Kept.forEach State.kept_touch as s

theorem State.kept_scan (s : State) : s.Kept s.scan := State.kept_touchAll _ s

theorem State.kept_changeSlot (a : SlotAddr) (f : Slot → Slot) (s : State) : s.Kept (s.changeSlot a f) :=
  ((State.kept_touch a s).trans (State.kept_putSlot a _ _)).trans (State.kept_rebalance _ _ _)

theorem State.kept_flagSlot (a : SlotAddr) (f : Slot → Slot) (s : State) : s.Kept (s.flagSlot a f) :=
  (State.kept_touch a s).trans (State.kept_putSlot a _ _)

theorem State.kept_setDue (a : SlotAddr) (s : State) : s.Kept (s.setDue a) :=
  (State.kept_flagSlot a _ s).trans (State.kept_unmark a _)

theorem State.kept_clearDue (a : SlotAddr) (s : State) : s.Kept (s.clearDue a) :=
  (State.kept_flagSlot a _ s).trans (State.kept_unmark a _)

theorem State.kept_putDisputed (a : SlotAddr) (b : Bool) (s : State) : s.Kept (s.putDisputed a b) :=
  State.kept_flagSlot a _ s

/-! ## Tasks -/

theorem State.kept_newTask (w : Owner) (a : SlotAddr) (q n : Nat) (s : State) : s.Kept (s.newTask w a q n) :=
  .of_base rfl fun _ => .refl _

theorem State.car_mapQueues (f : List Task → List Task) (s : State) (k : Fin 4) :
    (s.mapQueues f).car k = { (s.car k) with queue := f (s.car k).queue } := by
  simp [State.mapQueues, State.car]

/-- A change of every queue that adds no task. -/
theorem State.kept_mapQueues {f : List Task → List Task} (h : ∀ q, (f q).length ≤ q.length) (s : State) :
    s.Kept (s.mapQueues f) := by
  refine .of_base rfl fun k => ?_
  rw [State.car_mapQueues]
  exact ⟨rfl, rfl, rfl, rfl, rfl, .inl rfl, .inl rfl, le_trans (h _) (le_max_left _ _), le_max_left _ _, le_max_left _ _⟩

theorem State.kept_dropTask (id : Nat) (s : State) : s.Kept (s.dropTask id) :=
  (State.kept_mapQueues (fun q => List.length_filter_le _ q) s).trans (.of_base rfl fun _ => .refl _)

theorem State.kept_withdrawTask (id : Nat) (s : State) : s.Kept (s.withdrawTask id) :=
  State.kept_mapQueues (fun q => le_of_eq (by simp)) s

theorem State.kept_giveUp (acc : Option Accepting) (t : Task) (s : State) : s.Kept (s.giveUp acc t) := by
  unfold State.giveUp
  split
  · exact .refl s
  · exact (State.kept_changeSlot _ _ s).trans (State.kept_withdrawTask _ _)
  · exact (State.kept_changeSlot _ _ s).trans (State.kept_dropTask _ _)
  · exact (State.kept_changeSlot _ _ s).trans (State.kept_dropTask _ _)

theorem State.kept_giveUpAll (ts : List Task) (s : State) : s.Kept (s.giveUpAll ts) :=
  State.Kept.forEach (State.kept_giveUp none) _ s

theorem State.kept_fillQueue (k : Fin 4) (s : State) : s.Kept (s.fillQueue k) := by
  refine State.Kept.trans (b := s.modCar k fun c =>
    { c with queue := c.queue ++ (s.fillBatch k).map fun t => { t with state := .queued } }) ?_ (.of_base rfl fun _ => .refl _)
  refine State.kept_modCar k s ⟨rfl, rfl, rfl, rfl, rfl, .inl rfl, .inl rfl, ?_, le_max_left _ _, le_max_left _ _⟩
  have : (s.fillBatch k).length ≤ Config.queueDepth - (s.car k).queue.length := by
    simp [State.fillBatch, List.length_take]
  simp only [List.length_append, List.length_map]
  omega

theorem State.kept_fillQueues (s : State) : s.Kept s.fillQueues := State.Kept.forEach State.kept_fillQueue _ s

theorem State.kept_raiseSkips (k : Fin 4) (i : Nat) (s : State) : s.Kept (s.raiseSkips k i) :=
  State.kept_car k s (by simp [Carousel.base])

theorem State.kept_review (k : Fin 4) (s : State) : s.Kept (s.review k) :=
  State.kept_car k s (by simp [Carousel.base])

theorem State.kept_expireHold (k : Fin 4) (t : Task) (s : State) : s.Kept (s.expireHold k t) :=
  (State.kept_car k s (by simp [Carousel.base])).trans (State.kept_raise _ _ _)

theorem State.kept_expireHolds (k : Fin 4) (s : State) : s.Kept (s.expireHolds k) :=
  State.Kept.forEach (State.kept_expireHold k) _ s

/-! ## Marks and limits -/

theorem State.kept_evalMark (k : Fin 4) (s : State) : s.Kept (s.evalMark k) := by
  have h : s.Kept (s.modCar k fun c => { c with armed := !decide ((s.car k).limits.balanceLimit < (s.car k).projPeak) }) :=
    State.kept_car k s rfl
  unfold State.evalMark
  exact .ite (h.trans (State.kept_raise _ _ _)) h

theorem State.kept_evalMarks (s before : State) : s.Kept (s.evalMarks before) :=
  State.Kept.forEach (fun k s => .ite (.refl s) (State.kept_evalMark k s)) _ s

theorem State.kept_putCreep (k : Fin 4) (on : Bool) (s : State) : s.Kept (s.putCreep k on) := by
  unfold State.putCreep
  exact .ite (.refl s) ((State.kept_car k s rfl).trans (State.kept_raise _ _ _))

theorem State.kept_decideCreep (k : Fin 4) (s : State) : s.Kept (s.decideCreep k) := State.kept_putCreep k _ s

/-- Applying the staged limits. -/
theorem State.kept_applyLimits (k : Fin 4) (l : Limits) (s : State) (h : (s.car k).staged = some l) :
    s.Kept (s.applyLimits k l) := by
  have h1 : s.Kept (s.modCar k fun c => { c with limits := l, staged := none }) :=
    State.kept_modCar k s ⟨rfl, rfl, rfl, rfl, rfl, .inr h, .inr rfl, le_max_left _ _, le_max_left _ _, le_max_left _ _⟩
  unfold State.applyLimits
  exact (((h1.trans (State.kept_evalMark k _)).trans (State.kept_decideCreep k _)).trans (State.kept_review k _)).trans
    (State.kept_expireHolds k _)

/-! ## Put-away -/

theorem State.kept_commitPlace (p : Fin 16) (x : Held) (e : SlotAddr × Nat) (s : State) : s.Kept (s.commitPlace p x e) :=
  (State.kept_changeSlot _ _ s).trans (State.kept_newTask _ _ _ _ _)

theorem State.kept_commitPlaces (p : Fin 16) (x : Held) (es : List (SlotAddr × Nat)) (s : State) :
    s.Kept (s.commitPlaces p x es) := State.Kept.forEach (State.kept_commitPlace p x) es s

theorem State.kept_finishStore (p : Fin 16) (s : State) : s.Kept (s.finishStore p) := by
  unfold State.finishStore
  split
  · exact .refl s
  · exact .ite (State.kept_setStore _ _ s) (State.kept_setStore _ _ s)

theorem State.kept_raiseStored (r : Store) (s : State) : s.Kept (s.raiseStored r) := State.kept_raise _ _ s

theorem State.kept_completeStore (p : Fin 16) (s : State) : s.Kept (s.completeStore p) := by
  unfold State.completeStore
  split
  · exact .refl s
  · exact .ite ((State.kept_raiseStored _ s).trans (State.kept_finishStore p _)) (.refl s)

theorem State.kept_storeConfirmed (p : Fin 16) (t : Task) (s : State) : s.Kept (s.storeConfirmed p t) := by
  unfold State.storeConfirmed
  split
  · exact .refl s
  · exact (State.kept_setStore _ _ s).trans (State.kept_completeStore p _)

theorem State.kept_storeTaskGone (p : Fin 16) (s : State) : s.Kept (s.storeTaskGone p) := by
  unfold State.storeTaskGone
  split
  · exact .refl s
  · exact .ite (State.kept_finishStore p s) (.refl s)

theorem State.kept_failReplace (p : Fin 16) (r : Store) (a : SlotAddr) (q : Nat) (s : State) :
    s.Kept (s.failReplace p r a q) := by
  have h := (State.kept_setStore p (some { r with quantity := r.quantity - q }) s).trans (State.kept_raise .storeFailed
    ([.u8 r.number, .u16 ((s.setStore p (some { r with quantity := r.quantity - q })).codeOf (some ⟨r.article, r.week⟩)),
      .u16 r.week] ++ addrFields a ++ [.u8 q, .u8 (r.quantity - q)]) _)
  unfold State.failReplace
  exact .ite h (.ite (h.trans (State.kept_completeStore p _)) (h.trans (State.kept_finishStore p _)))

theorem State.kept_replace (p : Fin 16) (a : SlotAddr) (q : Nat) (s : State) : s.Kept (s.replace p a q) := by
  have h := State.kept_scan s
  unfold State.replace
  dsimp only
  split
  · exact h
  · split
    · exact h.trans (State.kept_failReplace _ _ _ _ _)
    · exact (h.trans (State.kept_commitPlaces _ _ _ _)).trans (State.kept_setStore _ _ _)

theorem State.kept_revokePlace (acc : Accepting) (t : Task) (s : State) : s.Kept (s.revokePlace acc t) := by
  have h := State.kept_giveUp (some acc) t s
  unfold State.revokePlace
  split
  · exact .refl s
  · dsimp only
    split
    · exact h
    · exact (h.trans (State.kept_setStore _ _ _)).trans (State.kept_replace _ _ _ _)

/-! ## Orders -/

theorem State.kept_setOrderState (o : Fin 32) (st : OrderState) (s : State) : s.Kept (s.setOrderState o st) :=
  State.kept_setOrder _ _ s

theorem State.kept_commitTake (o : Fin 32) (l : Nat) (e : SlotAddr × Nat) (s : State) : s.Kept (s.commitTake o l e) :=
  (State.kept_changeSlot _ _ s).trans (State.kept_newTask _ _ _ _ _)

theorem State.kept_commitLine (o : Fin 32) (l : Nat) (xs : List SlotAddr) (s : State) : s.Kept (s.commitLine o l xs) :=
  State.Kept.forEach (State.kept_commitTake o l) _ s

theorem State.kept_commitLines (o : Fin 32) :
    ∀ (xs : List (List SlotAddr)) (l : Nat) (s : State), s.Kept (State.commitLines o l xs s)
  | [], _, s => .refl s
  | x :: xs, l, s => (State.kept_commitLine o l x s).trans (State.kept_commitLines o xs (l + 1) _)

theorem State.kept_attempt (o : Fin 32) (s : State) : s.Kept (s.attempt o) := by
  unfold State.attempt
  split
  · exact .refl s
  · split
    · exact .refl s
    · exact (State.kept_commitLines o _ 1 s).trans (State.kept_setOrderState _ _ _)

theorem State.kept_retryOne (o : Fin 32) (s : State) : s.Kept (s.retryOne o) := by
  have h := State.kept_attempt o s
  unfold State.retryOne
  dsimp only
  split
  · exact h
  · exact .ite (h.trans (State.kept_raise _ _ _)) h

theorem State.kept_retryPending (s : State) : s.Kept s.retryPending := by
  unfold State.retryPending
  exact .ite (.refl s) ((State.kept_scan s).trans (State.Kept.forEach State.kept_retryOne _ _))

theorem State.kept_freeOrder (o : Fin 32) (s : State) : s.Kept (s.freeOrder o) := by
  have h := State.kept_setOrder o none s
  unfold State.freeOrder
  split
  · exact .refl s
  · dsimp only
    split
    · exact h
    · exact h.trans (State.kept_setLane _ _ _)

theorem State.kept_cutLane (o : Fin 32) (a b : Bool) (s : State) : s.Kept (s.cutLane o a b) := by
  unfold State.cutLane
  split
  · exact .refl s
  · split
    · exact .refl s
    · exact State.kept_setLane _ _ s

theorem State.kept_giveUpLine (acc : Option Accepting) (o : Fin 32) (l : Nat) (s : State) :
    s.Kept (s.giveUpLine acc o l) := State.Kept.forEach (State.kept_giveUp acc) _ s

theorem State.kept_giveUpOrder (acc : Option Accepting) (o : Fin 32) (s : State) : s.Kept (s.giveUpOrder acc o) :=
  State.Kept.forEach (State.kept_giveUp acc) _ s

theorem State.kept_raiseShort (o : Fin 32) (l : Nat) (s : State) : s.Kept (s.raiseShort o l) := by
  unfold State.raiseShort
  split
  · exact .refl s
  · exact State.kept_raise _ _ s

theorem State.kept_failLine (acc : Option Accepting) (o : Fin 32) (l : Nat) (s : State) : s.Kept (s.failLine acc o l) := by
  have h := State.kept_giveUpOrder acc o s
  unfold State.failLine
  exact .ite ((h.trans (State.kept_setOrderState _ _ _)).trans (State.kept_raiseShort _ _ _))
    (((h.trans (State.kept_setOrderState _ _ _)).trans (State.kept_cutLane _ _ _ _)).trans (State.kept_raiseShort _ _ _))

theorem State.kept_reallocate (acc : Option Accepting) (o : Fin 32) (l : Nat) (s : State) :
    s.Kept (s.reallocate acc o l) := by
  have h := (State.kept_giveUpLine acc o l s).trans (State.kept_scan _)
  unfold State.reallocate
  dsimp only
  split
  · exact h
  · split
    · exact h.trans (State.kept_failLine _ _ _ _)
    · exact h.trans (State.kept_commitLine _ _ _ _)

theorem State.kept_revokePick (acc : Accepting) (t : Task) (s : State) : s.Kept (s.revokePick acc t) := by
  unfold State.revokePick
  split
  · exact .refl s
  · exact .ite (State.kept_reallocate _ _ _ s) (State.kept_giveUp _ _ s)

/-! ## Lanes -/

theorem State.kept_pickConfirmed (o : Fin 32) (l : Nat) (t : Task) (s : State) : s.Kept (s.pickConfirmed o l t) := by
  unfold State.pickConfirmed
  split
  · exact .refl s
  · dsimp only
    split
    · exact State.kept_setOrder _ _ s
    · exact (State.kept_setOrder _ _ s).trans (State.kept_setLane _ _ _)

theorem State.kept_raiseReady (l : Fin 8) (r : Order) (s : State) : s.Kept (s.raiseReady l r) := State.kept_raise _ _ s

theorem State.kept_readyLane (l : Fin 8) (o : Fin 32) (s : State) : s.Kept (s.readyLane l o) := by
  have h1 : s.Kept (s.setLane l { s.lane l with state := .ready, timer := none, late := false }) :=
    State.kept_setLane l _ s
  unfold State.readyLane
  generalize s.setLane l _ = u at h1 ⊢
  have h2 : s.Kept (if u.orderIs o .picking then u.setOrderState o .complete else u) :=
    .ite (h1.trans (State.kept_setOrderState o .complete _)) h1
  dsimp only
  generalize (if u.orderIs o .picking then u.setOrderState o .complete else u) = v at h2 ⊢
  split
  · exact h2
  · exact h2.trans (State.kept_raiseReady _ _ _)

theorem State.kept_judgeLane (l : Fin 8) (s : State) : s.Kept (s.judgeLane l) := by
  unfold State.judgeLane
  dsimp only
  split
  · exact .refl s
  · exact .ite (.ite (State.kept_freeOrder _ s) (State.kept_readyLane _ _ s)) (.refl s)

theorem State.kept_judgeLanes (s before : State) : s.Kept (s.judgeLanes before) :=
  State.Kept.forEach (fun l s => .ite (State.kept_judgeLane l s) (.refl s)) _ s

theorem State.kept_grant (g : Fin 32 × Fin 8) (s : State) : s.Kept (s.grant g) := by
  unfold State.grant
  split
  · exact .refl s
  · exact (State.kept_setOrder _ _ s).trans (State.kept_setLane _ _ _)

theorem State.kept_arbitrate (s : State) : s.Kept s.arbitrate := State.Kept.forEach State.kept_grant _ s

theorem State.kept_collect (l : Fin 8) (s : State) : s.Kept (s.collect l) := by
  unfold State.collect
  dsimp only
  refine State.Kept.trans ?_ (State.kept_setLane _ _ _)
  split
  · exact .refl s
  · split
    · exact .refl s
    · exact (State.kept_setOrder _ _ s).trans (State.kept_raise _ _ _)

theorem State.kept_clearLane (l : Fin 8) (s : State) : s.Kept (s.clearLane l) := by
  unfold State.clearLane
  split
  · exact State.kept_collect l s
  · exact State.kept_setLane _ _ s
  · exact .refl s

/-! ## The discrepancy list -/

theorem State.kept_bumpGeneration (k : Fin 4) (s : State) : s.Kept (s.bumpGeneration k) :=
  State.kept_modCar k s ⟨rfl, rfl, rfl, rfl, rfl, .inl rfl, .inl rfl, le_max_left _ _, le_max_left _ _,
    le_trans (Nat.le_of_lt_succ (Nat.mod_lt _ (by decide))) (le_max_right _ _)⟩

/-- A shorter discrepancy list. -/
theorem State.kept_entries {es : List Entry} (s : State) (h : es.length ≤ max s.entries.length Config.listDepth)
    (g : (s.entries.map (·.slot)).Nodup → (es.map (·.slot)).Nodup) : s.Kept { s with entries := es } := by
  constructor <;> first | rfl | exact le_max_left _ _ | exact fun _ => .refl _ | exact h | exact g

theorem State.kept_removeEntry (a : SlotAddr) (s : State) : s.Kept (s.removeEntry a) := by
  unfold State.removeEntry
  refine .ite ((State.kept_entries s (le_trans (List.length_filter_le _ _) (le_max_left _ _)) fun h => ?_).trans
    (State.kept_bumpGeneration _ _)) (.refl s)
  exact h.sublist (List.filter_sublist.map _)

theorem State.removeEntry_entries (a : SlotAddr) (s : State) :
    (s.removeEntry a).entries = s.entries.filter fun e => e.slot ≠ a := by
  unfold State.removeEntry
  split
  · rfl
  · next h =>
    rw [List.filter_eq_self.2]
    intro e he
    simp only [State.named, List.any_eq_true, decide_eq_true_eq, not_exists, not_and] at h
    simpa using h e he

/-- With room, or with an entry to replace, the list grows no further than its depth. -/
theorem State.kept_addEntry (e : Entry) (s : State) (h : s.entryFits e.slot = true) : s.Kept (s.addEntry e) := by
  have h1 := State.kept_removeEntry e.slot s
  have hlen : (s.removeEntry e.slot).entries.length + 1 ≤ max s.entries.length Config.listDepth := by
    rw [State.removeEntry_entries]
    simp only [State.entryFits, State.listFull, Bool.or_eq_true, Bool.not_eq_true', decide_eq_false_iff_not, not_le] at h
    rcases h with h | h
    · have := List.length_filter_le (fun x : Entry => x.slot ≠ e.slot) s.entries
      omega
    · obtain ⟨x, hx, hs⟩ := List.any_eq_true.1 h
      have := List.length_filter_lt_length_iff_exists (p := fun x : Entry => x.slot ≠ e.slot) (l := s.entries) |>.2
        ⟨x, hx, by simpa using hs⟩
      omega
  have h2 : s.Kept { s.removeEntry e.slot with entries := (s.removeEntry e.slot).entries ++ [e] } := by
    have hn : (s.entries.map (·.slot)).Nodup →
        (((s.removeEntry e.slot).entries ++ [e]).map (·.slot)).Nodup := by
      intro hd
      rw [List.map_append, List.nodup_append]
      refine ⟨h1.oneEach hd, by simp, ?_⟩
      intro a ha b hb
      rw [State.removeEntry_entries] at ha
      obtain ⟨x, hx, rfl⟩ := List.mem_map.1 ha
      have := (List.mem_filter.1 hx).2
      simp only [List.map_cons, List.map_nil, List.mem_singleton] at hb
      subst hb
      simpa using this
    constructor
    all_goals first
      | exact h1.widths | exact h1.articles | exact h1.schedClock | exact h1.week | exact h1.setSpread
      | exact h1.cancelMode | exact h1.laneCap | exact h1.transitTimeout | exact h1.laneClock | exact h1.gaugeSpan
      | exact h1.estop | exact h1.idleTicks | exact h1.pending | exact h1.rate | exact h1.receiver | exact h1.gap
      | exact h1.received | exact h1.replies | exact h1.discarded | exact h1.refused | exact h1.sending
      | exact h1.lastSource | exact h1.notices | exact h1.lost | exact h1.lastNumber | exact h1.corrections
      | exact h1.workSeq | exact h1.workSeqSpent | exact h1.lastStore | exact h1.cars | exact hn | skip
    simpa using hlen
  have h3 := (h2.trans (State.kept_bumpGeneration e.slot.carousel _)).trans
    (State.kept_modCar e.slot.carousel (f := Carousel.countFound) _ (by
      unfold Carousel.countFound
      split
      · exact .refl _
      · exact ⟨rfl, rfl, rfl, rfl, rfl, .inl rfl, .inl rfl, le_max_left _ _,
          le_trans (min_le_left _ _) (le_max_right _ _), le_max_left _ _⟩))
  unfold State.addEntry
  exact .ite (h3.trans (State.kept_raise _ _ _)) h3

theorem State.kept_countResult (a : SlotAddr) (e : Estimate) (s : State) : s.Kept (s.countResult a e) := by
  unfold State.countResult
  dsimp only
  split
  · exact .refl s
  · split
    · exact (State.kept_clearDue a s).trans (State.kept_putDisputed _ _ _)
    · split
      · next h =>
        exact ((State.kept_addEntry _ s h).trans (State.kept_putDisputed _ _ _)).trans (State.kept_clearDue _ _)
      · exact (State.kept_putDisputed _ _ s).trans (State.kept_unmark _ _)

theorem State.kept_verifyResult (a : SlotAddr) (e : Estimate) (s : State) : s.Kept (s.verifyResult a e) := by
  unfold State.verifyResult
  split
  · exact .refl s
  · split
    · next h => exact (State.kept_addEntry _ s h).trans (State.kept_putDisputed _ _ _)
    · exact (State.kept_putDisputed _ _ s).trans (State.kept_setDue _ _)

/-! ## Audits -/

theorem State.kept_setCursor (k : Fin 4) (w : Sweep) (s : State) : s.Kept (s.setCursor k w) := by
  have last : ∀ (v : State) (xs : List Nat),
      v.Kept (v.modCar k fun c => { c with audit := .sweep { w with marks := xs } }) := fun v xs => State.kept_car k v rfl
  exact ((State.kept_touchAll (s.carrierAddrs k w.cursor) s).trans
    (State.Kept.forEach (fun j s => State.kept_flagSlot _ _ s) _ _)).trans (last _ _)

theorem State.kept_raiseDone (k : Fin 4) (kind : Nat) (r : Option (Nat × Nat)) (s : State) : s.Kept (s.raiseDone k kind r) :=
  State.kept_raise _ _ s

theorem State.kept_advanceSweep (k : Fin 4) : ∀ (f : Nat) (s : State), s.Kept (s.advanceSweep k f)
  | 0, s => .refl s
  | f + 1, s => by
    unfold State.advanceSweep
    split
    · split
      · split
        · exact (State.kept_car k s rfl).trans (State.kept_raiseDone _ _ _ _)
        · exact (State.kept_setCursor k _ s).trans (State.kept_advanceSweep k f _)
      · exact .refl s
    · exact .refl s
    · exact .refl s

theorem State.kept_testAudit (k : Fin 4) (s : State) : s.Kept (s.testAudit k) := by
  unfold State.testAudit
  split
  · exact .refl s
  · exact State.kept_advanceSweep k 48 s
  · exact .ite (.refl s) ((State.kept_car k s rfl).trans (State.kept_raiseDone _ _ _ _))

theorem State.kept_testAudits (s before : State) : s.Kept (s.testAudits before) :=
  State.Kept.forEach (fun k s => .ite (State.kept_testAudit k s) (.refl s)) _ s

/-! ## Presentations -/

theorem State.kept_modGauge (k : Fin 4) (f : Gauge → Gauge) (s : State) : s.Kept (s.modGauge k f) := State.kept_car k s rfl

theorem State.kept_enterIdle (k : Fin 4) (s : State) : s.Kept (s.enterIdle k) := by
  have h1 : s.Kept (s.modCar k fun c => { c with state := .idle }) := State.kept_car k s rfl
  unfold State.enterIdle
  generalize s.modCar k (fun c => { c with state := .idle }) = u at h1 ⊢
  dsimp only
  split
  · exact h1
  · next l h => exact h1.trans (State.kept_applyLimits k l u h)

theorem State.kept_endPresentation (k : Fin 4) (s : State) : s.Kept (s.endPresentation k) :=
  (State.kept_car k s rfl).trans (State.kept_enterIdle k _)

theorem State.kept_verifyNext (k : Fin 4) (s : State) : s.Kept (s.verifyNext k) := by
  unfold State.verifyNext
  split
  · exact State.kept_endPresentation k s
  · exact (State.kept_car k s rfl).trans (State.kept_modGauge _ _ _)

theorem State.kept_startHandling (k : Fin 4) (s : State) : s.Kept (s.startHandling k) := by
  unfold State.startHandling
  exact .ite (State.kept_car k s (by simp [Carousel.base])) (State.kept_endPresentation k s)

theorem State.kept_countFrom (k : Fin 4) (j : Nat) (s : State) : s.Kept (s.countFrom k j) := by
  unfold State.countFrom
  dsimp only
  split
  · exact State.kept_startHandling k s
  · exact .ite (State.kept_modGauge _ _ s) (State.kept_startHandling k s)

theorem State.kept_present (k : Fin 4) (i : Nat) (s : State) : s.Kept (s.present k i) := by
  unfold State.present
  exact (((State.kept_car k s rfl).trans (State.kept_raiseSkips _ _ _)).trans (State.kept_touchAll _ _)).trans
    (State.kept_countFrom k 0 _)

theorem State.kept_tellGone (t : Task) (s : State) : s.Kept (s.tellGone t) := by
  unfold State.tellGone
  split
  · exact .refl s
  · exact State.kept_storeTaskGone _ s

theorem State.kept_requeue (k : Fin 4) (id : Nat) (s : State) : s.Kept (s.requeue k id) :=
  State.kept_car k s (by simp [Carousel.base])

theorem State.kept_returnShown (k : Fin 4) (s : State) : s.Kept (s.returnShown k) :=
  State.Kept.forEach (fun _ s => .ite ((State.kept_dropTask _ s).trans (State.kept_tellGone _ _)) (State.kept_requeue _ _ s)) _ s

theorem State.kept_dueUnverified (k : Fin 4) (s : State) : s.Kept (s.dueUnverified k) :=
  State.Kept.forEach (fun _ s => State.kept_setDue _ s) _ s

theorem State.kept_endEarly (k : Fin 4) (cause : AbandonCause) (s : State) : s.Kept (s.endEarly k cause) := by
  unfold State.endEarly
  dsimp only
  refine State.Kept.trans ?_ (State.kept_car k _ rfl)
  split
  · exact .refl s
  · exact State.kept_modGauge _ _ s
  · exact State.kept_returnShown k s
  · exact (State.kept_dueUnverified k s).trans (State.kept_modGauge _ _ _)

/-! ## Runs, faults and stops -/

theorem State.kept_startHoming (k : Fin 4) (s : State) : s.Kept (s.startHoming k) := by
  unfold State.startHoming
  exact ((State.kept_car k s rfl).trans (State.kept_decideCreep k _)).trans (State.kept_car k _ rfl)

theorem State.kept_travelTo (k : Fin 4) (i : Nat) (s : State) : s.Kept (s.travelTo k i) := by
  unfold State.travelTo
  exact .ite (State.kept_present k i s) ((State.kept_decideCreep k s).trans (State.kept_car k _ rfl))

theorem State.kept_enterFault (k : Fin 4) (cause : FaultCause) (s : State) : s.Kept (s.enterFault k cause) := by
  unfold State.enterFault
  exact (((State.kept_endEarly k .drift s).trans (State.kept_car k _ rfl)).trans (State.kept_raise _ _ _)).trans
    (State.kept_car k _ rfl)

theorem State.kept_stopCarousel (k : Fin 4) (s : State) : s.Kept (s.stopCarousel k) := by
  unfold State.stopCarousel
  exact .ite ((((State.kept_endEarly k .estop s).trans (State.kept_car k _ rfl)).trans (State.kept_raise _ _ _)).trans
    (State.kept_car k _ rfl)) (.refl s)

theorem State.kept_pitch (k : Fin 4) (s : State) : s.Kept (s.modCar k Carousel.pitch) := State.kept_car k s rfl

theorem State.kept_raiseSlip (k : Fin 4) (kind held : Nat) (x : Int) (s : State) : s.Kept (s.raiseSlip k kind held x) :=
  State.kept_raise _ _ s

theorem State.kept_pulseHoming (k : Fin 4) (s : State) : s.Kept (s.pulseHoming k) := by
  unfold State.pulseHoming
  exact .ite ((State.kept_car k s rfl).trans (State.kept_enterFault _ _ _)) (State.kept_car k s rfl)

theorem State.kept_pulseMoving (k : Fin 4) (s : State) : s.Kept (s.pulseMoving k) := by
  unfold State.pulseMoving
  exact .ite ((State.kept_car k s rfl).trans (State.kept_present _ _ _)) (State.kept_car k s rfl)

theorem State.kept_pulseIdle (k : Fin 4) (s : State) : s.Kept (s.pulseIdle k) :=
  (State.kept_pitch k s).trans (State.kept_raiseSlip _ _ _ _ _)

theorem State.kept_endHoming (k : Fin 4) (s : State) : s.Kept (s.endHoming k) :=
  ((State.kept_car k s rfl).trans (State.kept_raise _ _ _)).trans (State.kept_enterIdle k _)

theorem State.kept_correctHome (k : Fin 4) (s : State) : s.Kept (s.correctHome k) := by
  unfold State.correctHome
  exact (State.kept_raiseSlip _ _ _ _ s).trans (State.kept_car k _ rfl)

theorem State.kept_homeMoving (k : Fin 4) (s : State) : s.Kept (s.homeMoving k) := by
  have h := (State.kept_correctHome k s).trans (State.kept_car k (f := fun c => { c with remaining := c.stepsFromHome }) _ rfl)
  unfold State.homeMoving
  exact .ite (h.trans (State.kept_present _ _ _)) h

/-! ## Confirmations and completions -/

theorem State.kept_applyDone (t : Task) (s : State) : s.Kept (s.applyDone t) := by
  unfold State.applyDone
  exact .ite (State.kept_dropTask _ s) ((State.kept_changeSlot _ _ s).trans (State.kept_dropTask _ _))

theorem State.kept_tellDone (t : Task) (s : State) : s.Kept (s.tellDone t) := by
  unfold State.tellDone
  split
  · exact State.kept_tellGone t s
  · split
    · exact State.kept_pickConfirmed _ _ _ s
    · exact State.kept_storeConfirmed _ _ s

theorem State.kept_applyFault (k : Fin 4) (t : Task) (s : State) : s.Kept (s.applyFault k t) := by
  unfold State.applyFault
  exact State.Kept.trans (.ite (State.kept_dropTask _ s) (State.kept_requeue _ _ s)) (State.kept_setDue _ _)

theorem State.kept_tellFault (t : Task) (s : State) : s.Kept (s.tellFault t) := by
  unfold State.tellFault
  exact .ite (State.kept_tellGone t s) (.refl s)

theorem State.kept_applyAllDone (k : Fin 4) (s : State) : s.Kept (s.applyAllDone k) :=
  (State.Kept.forEach State.kept_applyDone _ s).trans (State.Kept.forEach State.kept_tellDone _ _)

theorem State.kept_applyAllFault (k : Fin 4) (s : State) : s.Kept (s.applyAllFault k) :=
  (State.Kept.forEach (State.kept_applyFault k) _ s).trans (State.Kept.forEach State.kept_tellFault _ _)

theorem State.kept_afterHandling (k : Fin 4) (xs : List Nat) (s : State) : s.Kept (s.afterHandling k xs) := by
  unfold State.afterHandling
  exact .ite ((State.kept_car k s rfl).trans (State.kept_verifyNext k _)) (State.kept_endPresentation k s)

theorem State.kept_finishMeasure (k : Fin 4) (m : Measurement) (code : Nat) (s : State) :
    s.Kept (s.finishMeasure k m code) := by
  unfold State.finishMeasure
  dsimp only
  have h := (State.kept_touch m.slot s).trans (State.kept_modGauge k (fun g => { g with
    state := .idle, measure := none, inFlight := .none,
    last := some ⟨m.slot, m.purpose, .completed ((s.touch m.slot).estimate m.slot code)⟩ }) _)
  split
  · exact (h.trans (State.kept_countResult _ _ _)).trans (State.kept_countFrom _ _ _)
  · exact ((h.trans (State.kept_verifyResult _ _ _)).trans (State.kept_car k _ rfl)).trans (State.kept_verifyNext k _)

theorem State.kept_complete (k : Fin 4) (code : Nat) (s : State) : s.Kept (s.complete k code) := by
  unfold State.complete
  dsimp only
  split
  · exact .refl s
  · exact State.kept_modGauge _ _ s
  · exact State.kept_modGauge _ _ s
  · split
    · exact State.kept_modGauge _ _ s
    · exact State.kept_finishMeasure _ _ _ s

/-! ## The close of an event -/

theorem State.kept_offerLoop (k : Fin 4) : ∀ (f : Nat) (s : State), s.Kept (s.offerLoop k f)
  | 0, s => .refl s
  | f + 1, s => by
    unfold State.offerLoop
    split
    · split
      · exact .refl s
      · exact (State.kept_travelTo k _ s).trans (State.kept_offerLoop k f _)
    · exact .refl s

theorem State.kept_offers (s before : State) : s.Kept (s.offers before) :=
  State.Kept.forEach (fun k s => .ite (State.kept_offerLoop k 8 s) (.refl s)) _ s

theorem State.kept_closeWork (s : State) (retry : Bool) (before : State) : s.Kept (s.closeWork retry before) := by
  have h1 := State.kept_judgeLanes s before
  have h2 : s.Kept (if retry then (s.judgeLanes before).retryPending else s.judgeLanes before) :=
    .ite (h1.trans (State.kept_retryPending _)) h1
  have h3 : s.Kept (if before.arbiterDue (if retry then (s.judgeLanes before).retryPending else s.judgeLanes before) then
      (if retry then (s.judgeLanes before).retryPending else s.judgeLanes before).arbitrate
      else if retry then (s.judgeLanes before).retryPending else s.judgeLanes before) :=
    .ite (h2.trans (State.kept_arbitrate _)) h2
  exact h3

theorem State.kept_closeQueues (s before : State) : s.Kept (s.closeQueues before) := by
  unfold State.closeQueues
  exact .ite (State.kept_fillQueues s) (.refl s)

theorem State.kept_closeOffers : ∀ (f : Nat) (s before : State), s.Kept (s.closeOffers f before)
  | 0, s, _ => .refl s
  | f + 1, s, before => by
    unfold State.closeOffers
    exact ((State.kept_offers s before).trans (State.kept_testAudits _ _)).trans (State.kept_closeOffers f _ _)

/-- The close of any event. -/
theorem State.kept_close (s : State) (retry : Bool) (before : State) : s.Kept (s.close retry before) := by
  unfold State.close
  exact (((((State.kept_closeWork s retry before).trans (State.kept_testAudits _ _)).trans (State.kept_evalMarks _ _)).trans
    (State.kept_closeQueues _ _)).trans (State.kept_closeOffers 3 _ _)).trans (State.kept_evalMarks _ _)

/-- The close of a confirmation. -/
theorem State.kept_closeConfirm (s : State) (retry : Bool) (before : State) {onward : State → State}
    (h : ∀ u : State, u.Kept (onward u)) : s.Kept (s.closeConfirm retry before onward) := by
  unfold State.closeConfirm
  exact ((((((State.kept_closeWork s retry before).trans (State.kept_evalMarks _ _)).trans
    (State.kept_closeQueues _ _)).trans (h _)).trans (State.kept_testAudits _ _)).trans
    (State.kept_closeOffers 3 _ _)).trans (State.kept_evalMarks _ _)

/-- The close of a resolution. -/
theorem State.kept_closeResolve (s before : State) : s.Kept (s.closeResolve before) := by
  unfold State.closeResolve
  exact (((((State.kept_evalMarks s before).trans (State.kept_closeQueues _ _)).trans (State.kept_offers _ _)).trans
    (State.kept_testAudits _ _)).trans (State.kept_closeOffers 3 _ _)).trans (State.kept_evalMarks _ _)

/-! ## Whole requests, before their replies -/

theorem State.kept_confirmDone (k : Fin 4) (s : State) : s.Kept (s.confirmDone k) :=
  (State.kept_applyAllDone k s).trans (State.kept_closeConfirm _ _ _ fun u => State.kept_afterHandling k _ u)

theorem State.kept_confirmFault (k : Fin 4) (s : State) : s.Kept (s.confirmFault k) :=
  (State.kept_applyAllFault k s).trans (State.kept_closeConfirm _ _ _ fun u => State.kept_endPresentation k u)

theorem State.kept_dropStore (p : Fin 16) (r : Store) (s : State) : s.Kept (s.dropStore p r) :=
  ((State.kept_giveUpAll _ s).trans (State.kept_setStore _ _ _)).trans (State.kept_finishStore _ _)

theorem State.kept_releaseOrder (o : Fin 32) (s : State) : s.Kept (s.releaseOrder o) :=
  State.kept_giveUpAll _ s

theorem State.kept_cancelWaiting (o : Fin 32) (s : State) : s.Kept (s.cancelWaiting o) :=
  (State.kept_releaseOrder o s).trans (State.kept_setOrder _ _ _)

theorem State.kept_cancelHeld (o : Fin 32) (r : Order) (s : State) : s.Kept (s.cancelHeld o r) := by
  have h := State.kept_releaseOrder o s
  unfold State.cancelHeld
  exact .ite (h.trans (State.kept_freeOrder _ _))
    ((h.trans (State.kept_setOrderState _ _ _)).trans (State.kept_cutLane _ _ _ _))

theorem State.kept_openSweep (k : Fin 4) (r : Nat × Nat) (s : State) : s.Kept (s.openSweep k r) :=
  (State.kept_modCar k s ⟨rfl, rfl, rfl, rfl, rfl, .inl rfl, .inl rfl, le_max_left _ _, Nat.zero_le _, le_max_left _ _⟩).trans
    (State.kept_setCursor k _ _)

theorem State.kept_openSuspect (k : Fin 4) (s : State) : s.Kept (s.openSuspect k) :=
  (State.Kept.forEach State.kept_setDue _ s).trans
    (State.kept_modCar k _ ⟨rfl, rfl, rfl, rfl, rfl, .inl rfl, .inl rfl, le_max_left _ _, Nat.zero_le _, le_max_left _ _⟩)

theorem State.kept_stopAudit (k : Fin 4) (s : State) : s.Kept (s.stopAudit k) := by
  unfold State.stopAudit
  exact ((State.kept_touchAll _ s).trans (State.Kept.forEach State.kept_clearDue _ _)).trans (State.kept_car k _ rfl)

theorem State.kept_revokePicks (acc : Accepting) : ∀ (f n : Nat) (s : State), s.Kept (State.revokePicks acc f (s, n)).1
  | 0, _, s => .refl s
  | f + 1, n, s => by
    unfold State.revokePicks
    split
    · split
      · exact .refl s
      · exact (State.kept_revokePick acc _ s).trans (State.kept_revokePicks acc f _ _)
    · exact .refl s

theorem State.kept_revokePlaces (acc : Accepting) : ∀ (f n : Nat) (s : State), s.Kept (State.revokePlaces acc f (s, n)).1
  | 0, _, s => .refl s
  | f + 1, n, s => by
    unfold State.revokePlaces
    split
    · split
      · exact .refl s
      · exact (State.kept_revokePlace acc _ s).trans (State.kept_revokePlaces acc f _ _)
    · exact .refl s

theorem Tallied.kept_accept (a : SlotAddr) (stock : Option (Nat × Nat)) (x : Tallied) :
    x.state.Kept (x.accept a stock).state := by
  have h1 := (State.kept_changeSlot a (acceptSlot (x.state.carried stock) (x.state.measuredAt a) (x.state.capacity a))
    x.state).trans (State.kept_removeEntry a _)
  unfold Tallied.accept
  dsimp only
  generalize State.removeEntry a _ = u at h1 ⊢
  have h2 := h1.trans (State.kept_revokePicks ⟨a, x.state.measuredAt a⟩ (u.slot a).resOut 0 u)
  generalize State.revokePicks _ _ _ = p at h2 ⊢
  exact h2.trans (State.kept_revokePlaces _ _ 0 _)

theorem Tallied.kept_keep (a : SlotAddr) (x : Tallied) : x.state.Kept (x.keep a).state :=
  (State.kept_flagSlot a _ x.state).trans (State.kept_removeEntry a _)

theorem Tallied.kept_recount (a : SlotAddr) (x : Tallied) : x.state.Kept (x.recount a).state :=
  (State.kept_removeEntry a x.state).trans (State.kept_setDue a _)

theorem Tallied.kept_apply (x : Tallied) (d : SlotAddr × Decision) : x.state.Kept (x.apply d).state := by
  unfold Tallied.apply
  split
  · exact x.kept_accept _ _
  · exact x.kept_keep _
  · exact x.kept_recount _

theorem Tallied.kept_foldl : ∀ (ds : List (SlotAddr × Decision)) (x : Tallied),
    x.state.Kept (ds.foldl Tallied.apply x).state
  | [], _ => .refl _
  | d :: ds, x => (x.kept_apply d).trans (Tallied.kept_foldl ds _)

end Sys2Proof.Machine
end

