-- ==== Sys2Proof/Laws/Onward.lean ====
section
/-! SUPPORT. What the operations of an event's close can do to the state, said once: `Onward` for all of them, and `Working` for
those that leave the drives as they are. -/

namespace Sys2Proof.Machine

/-- What the operations that leave the drives alone do. -/
structure State.Working (s t : State) : Prop extends s.Onward t where
  still : ∀ k, (s.car k).Still (t.car k)

/-! ## They are preorders -/

theorem Slot.Onward.refl {b : Bool} {r : Slot} (h : r.damage = .sound) : Slot.Onward b r r :=
  ⟨h, rfl, rfl, rfl, rfl, .inl rfl, le_refl _, .inl rfl⟩

theorem Slot.Onward.trans {s : Bool} {a b c : Slot} (h : Slot.Onward s a b) (g : Slot.Onward s b c) : Slot.Onward s a c where
  damage := g.damage
  count := g.count.trans h.count
  resIn := g.resIn.trans h.resIn
  disputed := g.disputed.trans h.disputed
  suspect := g.suspect.trans h.suspect
  due := by
    rcases g.due with e | e
    · rw [e]; exact h.due
    · exact .inr e
  resOut := h.resOut.trans g.resOut
  held := by
    rcases g.held with e | ⟨x, y, z⟩
    · rw [e]; exact h.held
    · exact .inr ⟨h.count ▸ x, h.resIn ▸ y, z⟩

/-- What holds without an open sweep holds with one. -/
theorem Slot.Onward.weaken {b : Bool} {r r' : Slot} (h : Slot.Onward false r r') : Slot.Onward b r r' :=
  ⟨h.damage, h.count, h.resIn, h.disputed, h.suspect, .inl (h.due.resolve_right fun e => by simp at e), h.resOut, h.held⟩

theorem SlotsOnward.refl (b : Bool) (l : List Slot) : SlotsOnward b l l := ⟨rfl, fun _ r h d => ⟨r, h, .refl d⟩⟩

theorem SlotsOnward.trans {s : Bool} {a b c : List Slot} (h : SlotsOnward s a b) (g : SlotsOnward s b c) :
    SlotsOnward s a c where
  length := g.length.trans h.length
  sound i r hr d := by
    obtain ⟨r1, h1, o1⟩ := h.sound i r hr d
    obtain ⟨r2, h2, o2⟩ := g.sound i r1 h1 o1.damage
    exact ⟨r2, h2, o1.trans o2⟩

theorem SlotsOnward.weaken {b : Bool} {l l' : List Slot} (h : SlotsOnward false l l') : SlotsOnward b l l' :=
  ⟨h.length, fun i r e d => by obtain ⟨r', x, y⟩ := h.sound i r e d; exact ⟨r', x, y.weaken⟩⟩

theorem Carousel.Onward.refl (c : Carousel) : c.Onward c :=
  ⟨.refl c, rfl, rfl, rfl, rfl, rfl, rfl, rfl, id, .refl _ _⟩

theorem Carousel.Onward.trans {a b c : Carousel} (h : a.Onward b) (g : b.Onward c) : a.Onward c where
  toKept := h.toKept.trans g.toKept
  offset := g.offset.trans h.offset
  known := g.known.trans h.known
  homingCount := g.homingCount.trans h.homingCount
  cause := g.cause.trans h.cause
  sameReport := g.sameReport.trans h.sameReport
  sameFound := g.sameFound.trans h.sameFound
  last := g.last.trans h.last
  sweepless e := g.sweepless (h.sweepless e)
  slots := by
    have hs := h.slots
    have gs := g.slots
    cases e : a.sweeping with
    | false =>
      rw [e] at hs
      rw [h.sweepless e] at gs
      exact hs.trans gs
    | true =>
      rw [e] at hs
      refine hs.trans ?_
      cases e' : b.sweeping with
      | false => rw [e'] at gs; exact gs.weaken
      | true => rw [e'] at gs; exact gs

/-- A change of a carousel that leaves its records and its audit alone. -/
theorem Carousel.Onward.of_eq {c c' : Carousel} (b : c'.base = c.base)
    (h : (c'.offset, c'.known, c'.homingCount, c'.cause, c'.gauge.last, c'.audit, c'.slots) =
      (c.offset, c.known, c.homingCount, c.cause, c.gauge.last, c.audit, c.slots)) : c.Onward c' := by
  have hb := b
  simp only [Carousel.base, Prod.mk.injEq] at hb
  simp only [Prod.mk.injEq] at h
  obtain ⟨h1, h2, h3, h4, h5, h6, h7⟩ := h
  refine ⟨.of_base b, h1, h2, h3, h4, hb.2.2.2.2.2.2.2.2.2, hb.2.2.2.2.2.2.2.2.1, h5, ?_, ?_⟩
  · simp [Carousel.sweeping, h6]
  · rw [h7]; exact .refl _ _

theorem Carousel.Still.refl (c : Carousel) : c.Still c :=
  ⟨rfl, rfl, rfl, rfl, rfl, rfl, rfl, rfl, rfl, rfl, rfl, rfl, List.prefix_refl _⟩

theorem Carousel.Still.trans {a b c : Carousel} (h : a.Still b) (g : b.Still c) : a.Still c where
  state := g.state.trans h.state
  direction := g.direction.trans h.direction
  target := g.target.trans h.target
  remaining := g.remaining.trans h.remaining
  presented := g.presented.trans h.presented
  phase := g.phase.trans h.phase
  supervision := g.supervision.trans h.supervision
  creep := g.creep.trans h.creep
  limits := g.limits.trans h.limits
  staged := g.staged.trans h.staged
  gauge := g.gauge.trans h.gauge
  unverified := g.unverified.trans h.unverified
  queue := h.queue.trans g.queue

theorem State.Onward.refl (s : State) : s.Onward s :=
  ⟨.refl s, rfl, rfl, List.prefix_refl _, fun _ h => h, fun _ => .refl _⟩

theorem State.Onward.trans {a b c : State} (h : a.Onward b) (g : b.Onward c) : a.Onward c where
  toKept := h.toKept.trans g.toKept
  stores := g.stores.trans h.stores
  list := g.list.trans h.list
  raised := h.raised.trans g.raised
  freed o e := g.freed o (h.freed o e)
  drives k := (h.drives k).trans (g.drives k)

theorem State.Working.refl (s : State) : s.Working s := ⟨.refl s, fun _ => .refl _⟩

theorem State.Working.trans {a b c : State} (h : a.Working b) (g : b.Working c) : a.Working c :=
  ⟨h.toOnward.trans g.toOnward, fun k => (h.still k).trans (g.still k)⟩

theorem State.Working.forEach {α : Type} {f : α → State → State} (h : ∀ (x : α) (s : State), s.Working (f x s)) :
    ∀ (xs : List α) (s : State), s.Working (s.forEach xs f)
  | [], s => .refl s
  | x :: xs, s => (h x s).trans (State.Working.forEach h xs (f x s))

theorem State.Onward.forEach {α : Type} {f : α → State → State} (h : ∀ (x : α) (s : State), s.Onward (f x s)) :
    ∀ (xs : List α) (s : State), s.Onward (s.forEach xs f)
  | [], s => .refl s
  | x :: xs, s => (h x s).trans (State.Onward.forEach h xs (f x s))

/-! ## Primitive updates -/

theorem State.raise_notices (kind : NoticeKind) (fs : List Field) (s : State) :
    s.link.notices <+: (s.raise kind fs).link.notices := by
  unfold State.raise
  split
  · exact List.prefix_append _ _
  · exact List.prefix_refl _

theorem State.working_raise (kind : NoticeKind) (fs : List Field) (s : State) : s.Working (s.raise kind fs) := by
  refine ⟨⟨State.kept_raise _ _ s, by simp, by simp, State.raise_notices _ _ s, fun o h => by simpa using h, fun k => ?_⟩,
    fun k => ?_⟩
  · rw [State.car_raise]
    exact .refl _
  · rw [State.car_raise]
    exact .refl _

/-- A change of one carousel. -/
theorem State.onward_modCar (k : Fin 4) {f : Carousel → Carousel} (s : State) (h : (s.car k).Onward (f (s.car k))) :
    s.Onward (s.modCar k f) := by
  refine ⟨State.kept_modCar k s h.toKept, rfl, rfl, List.prefix_refl _, fun _ h => h, fun j => ?_⟩
  rw [State.car_modCar]
  split
  · next e => subst e; exact h
  · exact .refl _

theorem State.working_modCar (k : Fin 4) {f : Carousel → Carousel} (s : State) (h : (s.car k).Onward (f (s.car k)))
    (g : (s.car k).Still (f (s.car k))) : s.Working (s.modCar k f) := by
  refine ⟨State.onward_modCar k s h, fun j => ?_⟩
  rw [State.car_modCar]
  split
  · next e => subst e; exact g
  · exact .refl _

/-- A change of tables that the close may change freely. -/
theorem State.working_of_base {s t : State} (h : t.base = s.base) (g : t.stores = s.stores) (c : t.carousels = s.carousels)
    (f : ∀ o, s.order? o = none → t.order? o = none) : s.Working t := by
  have e : ∀ k, t.car k = s.car k := fun k => by simp [State.car, c]
  have hb := h
  simp only [State.base, Prod.mk.injEq] at hb
  obtain ⟨-, hl, -, -, -, -, he⟩ := hb
  exact ⟨⟨.of_base h fun k => by rw [e k]; exact .refl _, g, he, by rw [hl], f, fun k => by rw [e k]; exact .refl _⟩,
    fun k => by rw [e k]; exact .refl _⟩

theorem State.working_setLane (l : Fin 8) (x : Lane) (s : State) : s.Working (s.setLane l x) :=
  State.working_of_base rfl rfl rfl fun _ h => h

theorem State.working_setOrder (o : Fin 32) (x : Option Order) (s : State) (h : s.order? o = none → x = none) :
    s.Working (s.setOrder o x) := by
  refine State.working_of_base rfl rfl rfl fun j e => ?_
  rw [State.order?_setOrder]
  split
  · next i => subst i; exact h e
  · exact e

/-! ## Slot records -/

theorem Slot.settled_onward {b : Bool} {r r' : Slot} (h : Slot.Onward b r { r' with damage := .sound }) :
    Slot.Onward b r { r'.settled with damage := .sound } := by
  unfold Slot.settled
  split
  · next e => exact ⟨rfl, h.count, h.resIn, h.disputed, h.suspect, h.due, h.resOut, .inr ⟨h.count ▸ e.1, h.resIn ▸ e.2, rfl⟩⟩
  · exact h

theorem Carousel.slot_of_get {c : Carousel} {i j : Nat} {r : Slot} (h : c.slots[c.index i j]? = some r) :
    c.slot i j = r := by simp [Carousel.slot, h]

theorem slotsOnward_set {b : Bool} {l : List Slot} {i : Nat} {x : Slot}
    (h : ∀ r, l[i]? = some r → r.damage = .sound → Slot.Onward b r x) : SlotsOnward b l (l.set i x) where
  length := by simp
  sound j r hr d := by
    rw [List.getElem?_set]
    split
    · next e =>
      subst e
      have hlt : i < l.length := (List.getElem?_eq_some_iff.1 hr).1
      rw [if_pos hlt]
      exact ⟨x, rfl, h r hr d⟩
    · exact ⟨r, hr, .refl d⟩

/-- Changing only a carousel's records, soundly. -/
theorem State.working_slots (k : Fin 4) (s : State) {f : Carousel → List Slot}
    (h : SlotsOnward (s.car k).sweeping (s.car k).slots (f (s.car k))) :
    s.Working (s.modCar k fun c => { c with slots := f c }) :=
  State.working_modCar k s ⟨.of_base (by simp [Carousel.base, h.length]), rfl, rfl, rfl, rfl, rfl, rfl, rfl, id, h⟩
    ⟨rfl, rfl, rfl, rfl, rfl, rfl, rfl, rfl, rfl, rfl, rfl, rfl, List.prefix_refl _⟩

theorem State.working_putSlot (a : SlotAddr) (r : Slot) (s : State)
    (h : (s.slot a).damage = .sound → Slot.Onward (s.car a.carousel).sweeping (s.slot a) { r with damage := .sound }) :
    s.Working (s.putSlot a r) := by
  refine State.working_slots a.carousel s (slotsOnward_set fun r' hr d => ?_)
  have e : s.slot a = r' := Carousel.slot_of_get hr
  rw [e] at h
  exact Slot.settled_onward (h d)

theorem Audit.sweeping_unmark (a : Audit) (i j : Nat) (c : Carousel) :
    Carousel.sweeping { c with audit := a.unmark i j } = Carousel.sweeping { c with audit := a } := by
  unfold Audit.unmark
  split
  · split <;> rfl
  · rfl

theorem State.working_unmark (a : SlotAddr) (s : State) : s.Working (s.unmark a) :=
  State.working_modCar _ s ⟨.of_base rfl, rfl, rfl, rfl, rfl, rfl, rfl, rfl,
      fun e => (Audit.sweeping_unmark _ _ _ _).trans e, .refl _ _⟩
    ⟨rfl, rfl, rfl, rfl, rfl, rfl, rfl, rfl, rfl, rfl, rfl, rfl, List.prefix_refl _⟩

theorem State.working_countCorrection (s : State) : s.Working s.countCorrection :=
  ⟨⟨State.kept_countCorrection s, rfl, rfl, List.prefix_refl _, fun _ h => h, fun _ => .refl _⟩, fun _ => .refl _⟩

theorem State.working_mend (a : SlotAddr) (s : State) : s.Working (s.mend a) := by
  unfold State.mend
  split
  · exact .refl s
  · next h => exact (State.working_putSlot a _ s fun e => absurd e (by simp [h])).trans (State.working_countCorrection _)
  · next raw h =>
    exact (State.working_putSlot a _ s fun e => absurd e (by simp [h])).trans (State.working_unmark a _)

theorem State.working_raiseSuspect (a : SlotAddr) (s : State) : s.Working (s.raiseSuspect a) := State.working_raise _ _ s

theorem State.working_reweigh (k : Fin 4) (i : Nat) (s : State) : s.Working (s.reweigh k i) :=
  State.working_modCar _ s (.of_eq (by simp [Carousel.base, Carousel.withLoads]) rfl)
    ⟨rfl, rfl, rfl, rfl, rfl, rfl, rfl, rfl, rfl, rfl, rfl, rfl, List.prefix_refl _⟩

theorem State.working_rebalance (k : Fin 4) (i : Nat) (s : State) : s.Working (s.rebalance k i) := by
  unfold State.rebalance
  exact ((State.Working.forEach State.working_mend _ s).trans (State.working_reweigh k i _)).trans
    (State.Working.forEach State.working_raiseSuspect _ _)

theorem State.working_touch (a : SlotAddr) (s : State) : s.Working (s.touch a) := by
  unfold State.touch
  split
  · exact .refl s
  · exact State.working_mend a s
  · exact ((State.working_mend a s).trans (State.working_rebalance _ _ _)).trans (State.working_raiseSuspect _ _)

theorem State.working_touchAll (as : List SlotAddr) (s : State) : s.Working (s.touchAll as) :=
  State.Working.forEach State.working_touch as s

theorem State.working_scan (s : State) : s.Working s.scan := State.working_touchAll _ s

/-- Changing a record's reserved-out upward (R118). -/
theorem State.working_changeSlot (a : SlotAddr) (f : Slot → Slot) (s : State)
    (h : ∀ r : Slot, r.damage = .sound → Slot.Onward false r { f r with damage := .sound }) : s.Working (s.changeSlot a f) :=
  ((State.working_touch a s).trans (State.working_putSlot a _ _ fun d => (h _ d).weaken)).trans
    (State.working_rebalance _ _ _)

/-! ## Whether a sweep is open -/

theorem State.sweeping_putSlot (a : SlotAddr) (r : Slot) (s : State) (k : Fin 4) :
    ((s.putSlot a r).car k).sweeping = (s.car k).sweeping := by
  rw [State.putSlot, State.car_modCar]
  split
  · next e => subst e; rfl
  · rfl

theorem State.sweeping_mend (a : SlotAddr) (s : State) (k : Fin 4) : ((s.mend a).car k).sweeping = (s.car k).sweeping := by
  unfold State.mend
  split
  · rfl
  · exact State.sweeping_putSlot a _ s k
  · rw [State.unmark, State.car_modCar]
    split
    · next e =>
      subst e
      exact (Audit.sweeping_unmark _ _ _ _).trans (State.sweeping_putSlot a _ s _)
    · exact State.sweeping_putSlot a _ s k

theorem State.sweeping_forEach {α : Type} {f : α → State → State} (k : Fin 4)
    (h : ∀ (x : α) (s : State), ((f x s).car k).sweeping = (s.car k).sweeping) :
    ∀ (xs : List α) (s : State), ((s.forEach xs f).car k).sweeping = (s.car k).sweeping
  | [], _ => rfl
  | x :: xs, s => (State.sweeping_forEach k h xs (f x s)).trans (h x s)

theorem State.sweeping_rebalance (j : Fin 4) (i : Nat) (s : State) (k : Fin 4) :
    ((s.rebalance j i).car k).sweeping = (s.car k).sweeping := by
  unfold State.rebalance
  refine (State.sweeping_forEach k (fun a s => congrArg Carousel.sweeping (State.car_raise s _ _ k)) _ _).trans ?_
  rw [State.reweigh, State.car_modCar]
  split
  · next e => subst e; exact State.sweeping_forEach _ (fun a s => State.sweeping_mend a s _) _ s
  · exact State.sweeping_forEach k (fun a s => State.sweeping_mend a s k) _ s

theorem State.sweeping_touch (a : SlotAddr) (s : State) (k : Fin 4) : ((s.touch a).car k).sweeping = (s.car k).sweeping := by
  unfold State.touch
  split
  · rfl
  · exact State.sweeping_mend a s k
  · exact (congrArg Carousel.sweeping (State.car_raise _ _ _ k)).trans
      ((State.sweeping_rebalance _ _ _ k).trans (State.sweeping_mend a s k))

theorem State.sweeping_touchAll (as : List SlotAddr) (s : State) (k : Fin 4) :
    ((s.touchAll as).car k).sweeping = (s.car k).sweeping :=
  State.sweeping_forEach k (fun a s => State.sweeping_touch a s k) as s

/-- Setting COUNT_DUE under an open sweep (R166). -/
theorem State.working_markDue (a : SlotAddr) (s : State) (h : (s.car a.carousel).sweeping = true) :
    s.Working (s.flagSlot a fun r => { r with due := true }) :=
  (State.working_touch a s).trans (State.working_putSlot a _ _ fun _ =>
    ⟨rfl, rfl, rfl, rfl, rfl, .inr ⟨(State.sweeping_touch a s _).trans h, rfl⟩, le_refl _, .inl rfl⟩)

theorem State.sweeping_flagSlot (a : SlotAddr) (f : Slot → Slot) (s : State) (k : Fin 4) :
    ((s.flagSlot a f).car k).sweeping = (s.car k).sweeping :=
  (State.sweeping_putSlot a _ _ k).trans (State.sweeping_touch a s k)

/-! ## Tasks, orders and lanes -/

theorem State.working_newTask (w : Owner) (a : SlotAddr) (q n : Nat) (s : State) : s.Working (s.newTask w a q n) :=
  State.working_of_base rfl rfl rfl fun _ h => h

theorem State.working_setOrderState (o : Fin 32) (st : OrderState) (s : State) : s.Working (s.setOrderState o st) :=
  State.working_setOrder o _ s fun e => by simp [e]

theorem State.working_commitTake (o : Fin 32) (l : Nat) (e : SlotAddr × Nat) (s : State) :
    s.Working (s.commitTake o l e) := by
  unfold State.commitTake
  exact (State.working_changeSlot e.1 (fun r => { r with resOut := r.resOut + e.2 }) s fun r d =>
    ⟨rfl, rfl, rfl, rfl, rfl, .inl rfl, Nat.le_add_right _ _, .inl rfl⟩).trans (State.working_newTask _ _ _ _ _)

theorem State.working_commitLine (o : Fin 32) (l : Nat) (xs : List SlotAddr) (s : State) :
    s.Working (s.commitLine o l xs) := State.Working.forEach (State.working_commitTake o l) _ s

theorem State.working_commitLines (o : Fin 32) :
    ∀ (xs : List (List SlotAddr)) (l : Nat) (s : State), s.Working (State.commitLines o l xs s)
  | [], _, s => .refl s
  | x :: xs, l, s => (State.working_commitLine o l x s).trans (State.working_commitLines o xs (l + 1) _)

theorem State.working_attempt (o : Fin 32) (s : State) : s.Working (s.attempt o) := by
  unfold State.attempt
  split
  · exact .refl s
  · split
    · exact .refl s
    · exact (State.working_commitLines o _ 1 s).trans (State.working_setOrderState _ _ _)

theorem State.working_retryOne (o : Fin 32) (s : State) : s.Working (s.retryOne o) := by
  unfold State.retryOne
  dsimp only
  split
  · exact State.working_attempt o s
  · split
    · exact (State.working_attempt o s).trans (State.working_raise _ _ _)
    · exact State.working_attempt o s

theorem State.working_retryPending (s : State) : s.Working s.retryPending := by
  unfold State.retryPending
  split
  · exact .refl s
  · exact (State.working_scan s).trans (State.Working.forEach State.working_retryOne _ _)

theorem State.working_freeOrder (o : Fin 32) (s : State) : s.Working (s.freeOrder o) := by
  unfold State.freeOrder
  split
  · exact .refl s
  · dsimp only
    split
    · exact State.working_setOrder o none s fun _ => rfl
    · exact (State.working_setOrder o none s fun _ => rfl).trans (State.working_setLane _ _ _)

theorem State.working_raiseReady (l : Fin 8) (r : Order) (s : State) : s.Working (s.raiseReady l r) :=
  State.working_raise _ _ _

theorem State.working_readyLane (l : Fin 8) (o : Fin 32) (s : State) : s.Working (s.readyLane l o) := by
  have h1 : s.Working (s.setLane l { s.lane l with state := .ready, timer := none, late := false }) :=
    State.working_setLane l _ s
  unfold State.readyLane
  generalize s.setLane l _ = u at h1 ⊢
  have h2 : s.Working (if u.orderIs o .picking then u.setOrderState o .complete else u) := by
    split
    · exact h1.trans (State.working_setOrderState o .complete _)
    · exact h1
  dsimp only
  generalize (if u.orderIs o .picking then u.setOrderState o .complete else u) = v at h2 ⊢
  split
  · exact h2
  · exact h2.trans (State.working_raiseReady _ _ _)

theorem State.working_judgeLane (l : Fin 8) (s : State) : s.Working (s.judgeLane l) := by
  unfold State.judgeLane
  dsimp only
  split
  · exact .refl s
  · split
    · split
      · exact State.working_freeOrder _ s
      · exact State.working_readyLane _ _ s
    · exact .refl s

theorem State.working_judgeLanes (s before : State) : s.Working (s.judgeLanes before) :=
  State.Working.forEach (fun l s => by split; exacts [State.working_judgeLane l s, .refl s]) _ s

theorem State.working_grant (g : Fin 32 × Fin 8) (s : State) : s.Working (s.grant g) := by
  unfold State.grant
  split
  · exact .refl s
  · next r h =>
    exact (State.working_setOrder _ _ s fun e => by simp [h] at e).trans (State.working_setLane _ _ _)

theorem State.working_arbitrate (s : State) : s.Working s.arbitrate := State.Working.forEach State.working_grant _ s

/-! ## Marks, audits and queues -/

theorem State.working_evalMark (k : Fin 4) (s : State) : s.Working (s.evalMark k) := by
  unfold State.evalMark
  dsimp only
  have h : s.Working (s.modCar k fun c => { c with armed := !decide ((s.car k).limits.balanceLimit < (s.car k).projPeak) }) :=
    State.working_modCar _ s (.of_eq rfl rfl)
      ⟨rfl, rfl, rfl, rfl, rfl, rfl, rfl, rfl, rfl, rfl, rfl, rfl, List.prefix_refl _⟩
  split
  · exact h.trans (State.working_raise _ _ _)
  · exact h

theorem State.working_evalMarks (s before : State) : s.Working (s.evalMarks before) :=
  State.Working.forEach (fun k s => by split; exacts [.refl s, State.working_evalMark k s]) _ s

/-- An audit closed, or an open sweep changed. -/
theorem State.working_audit (k : Fin 4) (x : Audit) (s : State)
    (h : (s.car k).sweeping = false → ({ (s.car k) with audit := x } : Carousel).sweeping = false) :
    s.Working (s.modCar k fun c => { c with audit := x }) :=
  State.working_modCar _ s ⟨.of_base rfl, rfl, rfl, rfl, rfl, rfl, rfl, rfl, h, .refl _ _⟩
    ⟨rfl, rfl, rfl, rfl, rfl, rfl, rfl, rfl, rfl, rfl, rfl, rfl, List.prefix_refl _⟩

theorem State.working_markAll (k : Fin 4) (i : Nat) : ∀ (js : List Nat) (s : State), (s.car k).sweeping = true →
    s.Working (s.forEach js fun j s => s.flagSlot ⟨k, i, j⟩ fun r => { r with due := true })
  | [], s, _ => .refl s
  | j :: js, s, h => (State.working_markDue ⟨k, i, j⟩ s h).trans
      (State.working_markAll k i js _ ((State.sweeping_flagSlot _ _ s k).trans h))

theorem State.working_setCursor (k : Fin 4) (w : Sweep) (s : State) (h : (s.car k).sweeping = true) :
    s.Working (s.setCursor k w) := by
  have h1 : ((s.touchAll (s.carrierAddrs k w.cursor)).car k).sweeping = true := (State.sweeping_touchAll _ s k).trans h
  have h2 := State.working_markAll k w.cursor ((List.range ((s.touchAll (s.carrierAddrs k w.cursor)).car k).geometry.s).filter
    fun j => !(((s.touchAll (s.carrierAddrs k w.cursor)).car k).slot w.cursor j).disputed &&
      !(((s.touchAll (s.carrierAddrs k w.cursor)).car k).slot w.cursor j).due) _ h1
  refine ((State.working_touchAll _ s).trans h2).trans (State.working_audit k _ _ fun e => ?_)
  have h3 := State.sweeping_forEach (f := fun j (s : State) => s.flagSlot ⟨k, w.cursor, j⟩ fun r => { r with due := true }) k
    (fun j s => State.sweeping_flagSlot _ _ s k) ((List.range ((s.touchAll (s.carrierAddrs k w.cursor)).car k).geometry.s).filter
    fun j => !(((s.touchAll (s.carrierAddrs k w.cursor)).car k).slot w.cursor j).disputed &&
      !(((s.touchAll (s.carrierAddrs k w.cursor)).car k).slot w.cursor j).due) (s.touchAll (s.carrierAddrs k w.cursor))
  rw [h3, h1] at e
  exact absurd e (by simp)

theorem State.working_advanceSweep (k : Fin 4) : ∀ (f : Nat) (s : State), s.Working (s.advanceSweep k f)
  | 0, s => .refl s
  | f + 1, s => by
    unfold State.advanceSweep
    split
    · next w h =>
      have hs : (s.car k).sweeping = true := by simp [Carousel.sweeping, h]
      split
      · split
        · exact (State.working_audit k .none s fun _ => rfl).trans (State.working_raise _ _ _)
        · exact (State.working_setCursor k _ s hs).trans (State.working_advanceSweep k f _)
      · exact .refl s
    · exact .refl s
    · exact .refl s

theorem State.working_testAudit (k : Fin 4) (s : State) : s.Working (s.testAudit k) := by
  unfold State.testAudit
  split
  · exact .refl s
  · exact State.working_advanceSweep k 48 s
  · split
    · exact .refl s
    · exact (State.working_audit k .none s fun _ => rfl).trans (State.working_raise _ _ _)

theorem State.working_testAudits (s before : State) : s.Working (s.testAudits before) :=
  State.Working.forEach (fun k s => by split; exacts [State.working_testAudit k s, .refl s]) _ s

theorem State.car_fillQueue (k j : Fin 4) (s : State) : (s.fillQueue k).car j = if j = k then
    { (s.car k) with queue := (s.car k).queue ++ (s.fillBatch k).map fun t => { t with state := .queued } }
    else s.car j :=
  State.car_modCar s k j fun c => { c with queue := c.queue ++ (s.fillBatch k).map fun t => { t with state := .queued } }

theorem State.working_fillQueue (k : Fin 4) (s : State) : s.Working (s.fillQueue k) := by
  refine ⟨⟨State.kept_fillQueue k s, rfl, rfl, List.prefix_refl _, fun _ h => h, fun j => ?_⟩, fun j => ?_⟩
  · have hk := (State.kept_fillQueue k s).cars j
    rw [State.car_fillQueue] at hk ⊢
    rcases eq_or_ne j k with rfl | e
    · rw [if_pos rfl] at hk ⊢; exact ⟨hk, rfl, rfl, rfl, rfl, rfl, rfl, rfl, id, .refl _ _⟩
    · rw [if_neg e]; exact .refl _
  · rw [State.car_fillQueue]
    rcases eq_or_ne j k with rfl | e
    · rw [if_pos rfl]
      exact ⟨rfl, rfl, rfl, rfl, rfl, rfl, rfl, rfl, rfl, rfl, rfl, rfl, List.prefix_append _ _⟩
    · rw [if_neg e]; exact .refl _

theorem State.working_fillQueues (s : State) : s.Working s.fillQueues :=
  State.Working.forEach State.working_fillQueue _ s

theorem State.working_ite {s t u : State} (c : Bool) (h : s.Working t) (g : s.Working u) :
    s.Working (if c then t else u) := by
  split
  · exact h
  · exact g

theorem State.working_closeWork (s : State) (retry : Bool) (before : State) : s.Working (s.closeWork retry before) := by
  have h1 := State.working_judgeLanes s before
  have h2 := State.working_ite retry (h1.trans (State.working_retryPending _)) h1
  have h3 := State.working_ite (before.arbiterDue (if retry then (s.judgeLanes before).retryPending else s.judgeLanes before))
    (h2.trans (State.working_arbitrate _)) h2
  exact h3

theorem State.working_closeQueues (s before : State) : s.Working (s.closeQueues before) := by
  unfold State.closeQueues
  split
  · exact State.working_fillQueues s
  · exact .refl s

/-! ## Offers -/

/-- What an operation on the drive of one carousel does: the drives of the others stay. -/
structure State.Driving (k : Fin 4) (s t : State) : Prop extends s.Onward t where
  others : ∀ j, j ≠ k → (s.car j).Still (t.car j)

theorem State.Driving.refl (k : Fin 4) (s : State) : State.Driving k s s := ⟨.refl s, fun _ _ => .refl _⟩

theorem State.Driving.trans {k : Fin 4} {a b c : State} (h : State.Driving k a b) (g : State.Driving k b c) :
    State.Driving k a c :=
  ⟨h.toOnward.trans g.toOnward, fun j e => (h.others j e).trans (g.others j e)⟩

theorem State.Working.driving {s t : State} (h : s.Working t) (k : Fin 4) : State.Driving k s t :=
  ⟨h.toOnward, fun j _ => h.still j⟩

theorem State.Driving.ite {k : Fin 4} {s t u : State} {p : Prop} [Decidable p] (h : State.Driving k s t)
    (g : State.Driving k s u) : State.Driving k s (if p then t else u) := by
  split
  · exact h
  · exact g

theorem State.Driving.forEach {α : Type} {k : Fin 4} {f : α → State → State}
    (h : ∀ (x : α) (s : State), State.Driving k s (f x s)) : ∀ (xs : List α) (s : State), State.Driving k s (s.forEach xs f)
  | [], s => .refl k s
  | x :: xs, s => (h x s).trans (State.Driving.forEach h xs (f x s))

/-- Changing only drive fields of a carousel. -/
theorem State.driving_car (k : Fin 4) {f : Carousel → Carousel} (s : State) (h : (s.car k).Onward (f (s.car k))) :
    State.Driving k s (s.modCar k f) :=
  ⟨State.onward_modCar k s h, fun j e => by rw [State.car_modCar_ne s e]; exact .refl _⟩

theorem State.driving_raise (k : Fin 4) (kind : NoticeKind) (fs : List Field) (s : State) :
    State.Driving k s (s.raise kind fs) := (State.working_raise kind fs s).driving k

theorem State.driving_putCreep (k : Fin 4) (on : Bool) (s : State) : State.Driving k s (s.putCreep k on) := by
  unfold State.putCreep
  exact .ite (.refl k s) ((State.driving_car k s (.of_eq rfl rfl)).trans
    (State.driving_raise _ _ _ _))

theorem State.driving_decideCreep (k : Fin 4) (s : State) : State.Driving k s (s.decideCreep k) :=
  State.driving_putCreep k _ s

theorem State.driving_expireHold (k : Fin 4) (t : Task) (s : State) : State.Driving k s (s.expireHold k t) := by
  unfold State.expireHold
  exact (State.driving_car k s (.of_eq (by simp [Carousel.base]) rfl)).trans
    (State.driving_raise _ _ _ _)

theorem State.driving_review (k : Fin 4) (s : State) : State.Driving k s (s.review k) :=
  State.driving_car k s (.of_eq (by simp [Carousel.base]) rfl)

theorem State.driving_applyLimits (k : Fin 4) (l : Limits) (s : State) (h : (s.car k).staged = some l) :
    State.Driving k s (s.applyLimits k l) := by
  have h1 : State.Driving k s (s.modCar k fun c => { c with limits := l, staged := none }) :=
    State.driving_car k s ⟨⟨rfl, rfl, rfl, rfl, rfl, .inr h, .inr rfl, le_max_left _ _, le_max_left _ _, le_max_left _ _⟩,
      rfl, rfl, rfl, rfl, rfl, rfl, rfl, id, .refl _ _⟩
  unfold State.applyLimits
  exact (((h1.trans ((State.working_evalMark k _).driving k)).trans (State.driving_decideCreep k _)).trans
    (State.driving_review k _)).trans (State.Driving.forEach (State.driving_expireHold k) _ _)

theorem State.driving_enterIdle (k : Fin 4) (s : State) : State.Driving k s (s.enterIdle k) := by
  have h1 : State.Driving k s (s.modCar k fun c => { c with state := .idle }) :=
    State.driving_car k s (.of_eq rfl rfl)
  unfold State.enterIdle
  generalize s.modCar k (fun c => { c with state := .idle }) = u at h1 ⊢
  dsimp only
  split
  · exact h1
  · next l h => exact h1.trans (State.driving_applyLimits k l u h)

theorem State.driving_endPresentation (k : Fin 4) (s : State) : State.Driving k s (s.endPresentation k) :=
  (State.driving_car k s (.of_eq rfl rfl)).trans (State.driving_enterIdle k _)

theorem State.driving_verifyNext (k : Fin 4) (s : State) : State.Driving k s (s.verifyNext k) := by
  unfold State.verifyNext
  split
  · exact State.driving_endPresentation k s
  · exact (State.driving_car k s (.of_eq rfl rfl)).trans
      (State.driving_car k _ (.of_eq rfl rfl))

theorem State.driving_startHandling (k : Fin 4) (s : State) : State.Driving k s (s.startHandling k) := by
  unfold State.startHandling
  exact .ite (State.driving_car k s (.of_eq (by simp [Carousel.base]) rfl))
    (State.driving_endPresentation k s)

theorem State.driving_countFrom (k : Fin 4) (j : Nat) (s : State) : State.Driving k s (s.countFrom k j) := by
  unfold State.countFrom
  dsimp only
  split
  · exact State.driving_startHandling k s
  · exact .ite (State.driving_car k s (.of_eq rfl rfl))
      (State.driving_startHandling k s)

theorem State.driving_present (k : Fin 4) (i : Nat) (s : State) : State.Driving k s (s.present k i) := by
  unfold State.present
  exact (((State.driving_car k s (.of_eq rfl rfl)).trans
    (State.driving_car k _ (.of_eq (by simp [Carousel.base]) rfl))).trans
    ((State.working_touchAll _ _).driving k)).trans (State.driving_countFrom k 0 _)

theorem State.driving_travelTo (k : Fin 4) (i : Nat) (s : State) : State.Driving k s (s.travelTo k i) := by
  unfold State.travelTo
  exact .ite (State.driving_present k i s) ((State.driving_decideCreep k s).trans
    (State.driving_car k _ (.of_eq rfl rfl)))

theorem State.driving_afterHandling (k : Fin 4) (xs : List Nat) (s : State) :
    State.Driving k s (s.afterHandling k xs) := by
  unfold State.afterHandling
  exact .ite ((State.driving_car k s (.of_eq rfl rfl)).trans
    (State.driving_verifyNext k _)) (State.driving_endPresentation k s)

theorem State.driving_offerLoop (k : Fin 4) : ∀ (f : Nat) (s : State), State.Driving k s (s.offerLoop k f)
  | 0, s => .refl k s
  | f + 1, s => by
    unfold State.offerLoop
    split
    · split
      · exact .refl k s
      · exact (State.driving_travelTo k _ s).trans (State.driving_offerLoop k f _)
    · exact .refl k s

/-! ## The whole close -/

theorem State.Closed.refl (s : State) : s.Closed s := ⟨.refl s, fun _ _ => .refl _⟩

theorem State.Closed.trans {a b c : State} (h : a.Closed b) (g : b.Closed c) : a.Closed c :=
  ⟨h.toOnward.trans g.toOnward, fun k e => (h.still k e).trans (g.still k (by rw [(h.still k e).state]; exact e))⟩

theorem State.Working.closed {s t : State} (h : s.Working t) : s.Closed t := ⟨h.toOnward, fun k _ => h.still k⟩

theorem State.Closed.forEach {α : Type} {f : α → State → State} (h : ∀ (x : α) (s : State), s.Closed (f x s)) :
    ∀ (xs : List α) (s : State), s.Closed (s.forEach xs f)
  | [], s => .refl s
  | x :: xs, s => (h x s).trans (State.Closed.forEach h xs (f x s))

/-- Offers do nothing to a carousel that is not IDLE. -/
theorem State.closed_offerLoop (k : Fin 4) (f : Nat) (s : State) : s.Closed (s.offerLoop k f) := by
  refine ⟨(State.driving_offerLoop k f s).toOnward, fun j e => ?_⟩
  rcases eq_or_ne j k with rfl | h
  · cases f with
    | zero => exact .refl _
    | succ f => rw [State.offerLoop, if_neg e]; exact .refl _
  · exact (State.driving_offerLoop k f s).others j h

theorem State.closed_offers (s before : State) : s.Closed (s.offers before) :=
  State.Closed.forEach (fun k s => by split; exacts [State.closed_offerLoop k 8 s, .refl s]) _ s

theorem State.closed_closeOffers : ∀ (f : Nat) (s before : State), s.Closed (s.closeOffers f before)
  | 0, s, _ => .refl s
  | f + 1, s, before => by
    unfold State.closeOffers
    exact ((State.closed_offers s before).trans (State.working_testAudits _ _).closed).trans
      (State.closed_closeOffers f _ _)

/-- What the close of any event leaves. -/
theorem State.closed_close (s : State) (retry : Bool) (before : State) : s.Closed (s.close retry before) := by
  unfold State.close
  exact (((((State.working_closeWork s retry before).trans (State.working_testAudits _ _)).trans
    (State.working_evalMarks _ _)).trans (State.working_closeQueues _ _)).closed.trans
    (State.closed_closeOffers 3 _ before)).trans (State.working_evalMarks _ _).closed

/-- What the close of a confirmation leaves. -/
theorem State.onward_closeConfirm (s : State) (retry : Bool) (before : State) {onward : State → State}
    (h : ∀ u : State, u.Onward (onward u)) : s.Onward (s.closeConfirm retry before onward) := by
  unfold State.closeConfirm
  exact ((((((State.working_closeWork s retry before).trans (State.working_evalMarks _ _)).trans
    (State.working_closeQueues _ _)).toOnward.trans (h _)).trans
    (State.working_testAudits _ _).toOnward).trans (State.closed_closeOffers 3 _ _).toOnward).trans
    (State.working_evalMarks _ _).toOnward

/-- What the close of a resolution leaves. -/
theorem State.closed_closeResolve (s before : State) : s.Closed (s.closeResolve before) := by
  unfold State.closeResolve
  exact (((((State.working_evalMarks s before).trans (State.working_closeQueues _ _)).closed.trans
    (State.closed_offers _ _)).trans (State.working_testAudits _ _).closed).trans (State.closed_closeOffers 3 _ _)).trans
    (State.working_evalMarks _ _).closed

end Sys2Proof.Machine
end

