-- ==== Sys2Proof/Tests/Slice0.lean ====
section
/-! SUPPORT. Tests of the model by the worked examples of the spec, the smoke test of WellFormed, and for every statement of
Certificates/Slice0 that has hypotheses a witness: a state and operands that meet them. -/

namespace Sys2Proof.Machine.Tests

-- One theorem at a time: elaborated side by side, their evaluations outgrow the memory of the checks.
set_option Elab.async false

/-! ## WellFormed: one ill-formed command for each check -/

theorem test_wf_byte : WellFormed.instr (.status 256) = false := by decide
theorem test_wf_half : WellFormed.instr (.setWeek 1 65536) = false := by decide
theorem test_wf_triple : WellFormed.instr (.setLimits 1 0 ⟨16777216, 0, 0, 0, 0, 0, 0, 0⟩) = false := by decide
theorem test_wf_limits : WellFormed.instr (.setLimits 1 0 ⟨0, 0, 0, 0, 0, 0, 0, 256⟩) = false := by decide
theorem test_wf_optByte : WellFormed.instr (.readStore 1 (some 256) 0) = false := by decide
theorem test_wf_range : WellFormed.instr (.auditSweep 1 0 none (some 3)) = false := by decide
theorem test_wf_lines : WellFormed.instr (.order 1 5 0 [⟨65536, 1, 0⟩]) = false := by decide
theorem test_wf_lines_length : WellFormed.instr (.order 1 5 0 (List.replicate 62 ⟨1, 1, 0⟩)) = false := by decide
theorem test_wf_decisions : WellFormed.instr (.resolve 1 0 0 [⟨0, 0, 256, 0, 0⟩]) = false := by decide
theorem test_wf_decisions_length : WellFormed.instr (.resolve 1 0 0 (List.replicate 36 ⟨0, 0, 0, 0, 0⟩)) = false := by
  decide
theorem test_wf_columns : WellFormed.instr (.setCarousel 1 0 8 1 1 [(256, 4)]) = false := by decide
theorem test_wf_columns_length : WellFormed.instr (.setCarousel 1 0 8 7 1 (List.replicate 7 (0, 4))) = false := by decide
theorem test_wf_content : WellFormed.instr (.frameReceived [1#8] 0) = false := by decide
theorem test_wf_code : WellFormed.instr (.conversionComplete 0 1024) = false := by decide
theorem test_wf_place : WellFormed.instr (.holdTimerExpiry 0 32) = false := by decide
theorem test_wf_start : WellFormed.instr (.readStock 1 7 (some (0, 256, 0))) = false := by decide
theorem test_wf_accepts : WellFormed.instr (.order 255 65535 3 [⟨65535, 16, 1⟩]) = true := by decide

/-! ## States to try commands on -/

/-- A carousel of eight carriers and one column of class 0 and capacity 4, opening at position 1, IDLE at offset 0. -/
def stand : Carousel :=
  { Carousel.initial.rebuild (geometryOf 8 1 1 [(0, 4)]) with state := .idle, known := true }

/-- Article 7 at position 0, and two tyres of week 5 in slot (A, 3, 0). -/
def shelf : State :=
  (((State.reset.setCar 0 stand).setArticle 0 (some ⟨7, 0, 200, 100, 52⟩)).putSlot ⟨0, 3, 0⟩
    ⟨some ⟨0, 5⟩, 2, 0, 0, false, false, false, .sound⟩).reweigh 0 3

/-- The shelf with carousel A changed. -/
def shelfWith (f : Carousel → Carousel) : State := shelf.modCar 0 f

/-- Carousel A running to offset 4, with so many steps left. -/
def running (d : Direction) (offset steps : Nat) : State :=
  shelfWith fun c =>
    { c with
      state := .moving, direction := d, offset := offset, target := some 4, remaining := steps, presented := some 5
      supervision := some ⟨2000, 700⟩ }

/-- A PICK of order position 0, line 1, of two tyres from slot (A, 3, 0). -/
def pick (st : TaskState) (starving : Option Nat) : Task := ⟨0, .pick 0 1, ⟨0, 3, 0⟩, 2, 5, st, 0, starving⟩

/-- A PLACE of store position 0, of one tyre into slot (A, 3, 0). -/
def put (st : TaskState) : Task := ⟨1, .place 0, ⟨0, 3, 0⟩, 1, 5, st, 0, none⟩

/-- Carousel A presenting carrier 3 with a PICK and a PLACE shown. -/
def handling : State :=
  shelfWith fun c =>
    { c with state := .presenting, phase := .handling, presented := some 3, queue := [pick .shown none, put .shown] }

/-- An order of one line of two tyres of article position 0. -/
def someOrder (st : OrderState) (lane : Option (Fin 8)) (dispatched : Nat) : Order :=
  ⟨901, 1, 0, st, lane, [⟨0, 2, false, dispatched, none, []⟩]⟩

/-- A store of one tyre for slot (A, 3, 0). -/
def someStore (st : StoreState) : Store := ⟨1, 0, 0, 5, none, 1, st, [⟨⟨0, 3, 0⟩, 1, 0⟩]⟩

/-- The shelf with an order at position 0, and lane 2 filling or ready for it. -/
def laned (o : Order) (x : Lane) : State := (shelf.setOrder 0 (some o)).setLane 2 x

/-- A lane of order position 0. -/
def someLane (st : LaneState) (expected dispatched arrived : Nat) : Lane :=
  ⟨st, some 0, expected, dispatched, arrived, false, false, false, false, none⟩

/-- The part with its receiver and gap timer as given. -/
def receiving (r : Receiver) (gap : Nat) : State :=
  { State.reset with link := { State.reset.link with receiver := r, gap := gap } }

/-- The field a statement about a step answers with, when it answers a next state. -/
def after {α : Type} (o : Out) (f : State → α) : Option α :=
  match o with
  | .next t => some (f t)
  | .fault _ => none
  | .refused _ => none

/-- An order PICKING with lane 2 and a store, with their PICK of two tyres and PLACE of one on slot (A, 3, 0): queued on the IDLE
carousel A, or shown in HANDLING. -/
def promised (shown : Bool) : State :=
  let st : TaskState := if shown then .shown else .queued
  let s := (((laned (someOrder .picking (some 2) 0) (someLane .filling 2 0 0)).setStore 0 (some (someStore .opened))).putSlot
    ⟨0, 3, 0⟩ ⟨some ⟨0, 5⟩, 2, 2, 1, false, false, false, .sound⟩).reweigh 0 3
  { s.modCar 0 fun c => { c with
      queue := [pick st none, put st]
      state := if shown then .presenting else .idle
      phase := if shown then .handling else .none
      presented := if shown then some 3 else none } with nextTask := 2 }

theorem promised_sound : ∀ b, (promised b).Sound := by unfold State.Sound; decide +kernel

theorem promised_shaped : ∀ b, (promised b).Shaped := by intro b k; constructor <;> revert b k <;> decide +kernel

theorem promised_coherent : ∀ b, (promised b).Coherent := by intro b k; constructor <;> revert b k <;> decide +kernel

/-- `State.Paired` in terms that are decided by evaluation. -/
theorem paired_of {s : State} (h : ∀ l, ∀ o ∈ (s.lane l).order, (s.order? o).any fun r => r.lane = some l)
    (g : ∀ o, ∀ r ∈ s.order? o, (∀ l ∈ r.lane, (s.lane l).order = some o) ∧
      (r.lane = none ↔ r.state = .pending ∨ r.state = .allocated))
    (f : ∀ l, (s.lane l).order = none ↔ (s.lane l).state = .free) : s.Paired where
  laneOrder := by
    intro l o e
    have x := h l o e
    cases y : s.order? o with
    | none => simp [y] at x
    | some r => exact ⟨r, rfl, by simpa [y] using x⟩
  orderLane := fun o r l e x => (g o r e).1 l x
  granted := fun o r e => (g o r e).2
  free := f

theorem promised_paired : ∀ b, (promised b).Paired := fun b =>
  paired_of (by revert b; decide +kernel) (by revert b; decide +kernel) (by revert b; decide +kernel)

/-- `State.Lawful` in terms that are decided by evaluation. -/
def lawsHold (s : State) : Bool :=
  decide (∀ k, ∀ c < (s.car k).geometry.n, ∀ j < (s.car k).geometry.s,
    let a : SlotAddr := ⟨k, c, j⟩
    (s.slot a).resOut ≤ (s.slot a).count ∧ (s.slot a).count + (s.slot a).resIn ≤ s.capacity a ∧
    ((s.slot a).held.isSome = true ↔ 0 < (s.slot a).count ∨ 0 < (s.slot a).resIn) ∧
    (s.slot a).resOut = quantitySum (s.picksOn a) ∧ (s.slot a).resIn = quantitySum (s.placesOn a)) &&
  decide (∀ k, (∀ c < (s.car k).geometry.n, (s.car k).phys[c]? = some (s.physLoad k c)) ∧
    (∀ c < (s.car k).geometry.n, (s.car k).proj[c]? = some (s.projLoad k c)) ∧
    (s.car k).physPeak = peak (s.car k).geometry.n (s.car k).phys ∧
    (s.car k).projPeak = peak (s.car k).geometry.n (s.car k).proj) &&
  decide (∀ p, ∀ r ∈ s.store? p, (r.placements.map (·.slot)).Nodup ∧
    (∀ t ∈ s.allTasks, t.ofStore p = true → t.counts = true → t.slot ∈ r.placements.map (·.slot)) ∧
    (∀ e ∈ r.placements, e.placed = e.confirmed + s.placing p e.slot) ∧ r.quantity = (r.placements.map (·.placed)).sum ∧
    (r.state = .closing → ∀ t ∈ s.allTasks, t.ofStore p = true → t.counts = false) ∧
    (s.article? r.article).isSome = true) &&
  decide ((s.allTasks.map (·.id)).Nodup ∧ (∀ t ∈ s.allTasks, t.id < s.nextTask ∧ 1 ≤ t.quantity ∧
    (s.car t.slot.carousel).hasSlot t.slot.carrier t.slot.column = true ∧
    (match t.owner with
      | .pick o l => (s.order? o).any fun r => 1 ≤ l && l ≤ r.lines.length
      | .place p => (s.store? p).isSome) = true) ∧
    (∀ t ∈ s.waiting, t.state = .unreleased) ∧
    ∀ k, ∀ t ∈ (s.car k).queue, t.slot.carousel = k ∧ t.state ≠ .unreleased ∧
      (t.state = .shown ∨ t.state = .withdrawn → (s.car k).handling = true)) &&
  decide (∀ o, ∀ r ∈ s.order? o, (∀ x ∈ r.lines, (s.article? x.article).isSome = true) ∧
    (r.state = .pending → s.orderTasks o = []) ∧
    (r.state = .pending ∨ r.state = .allocated → ∀ k, ∀ t ∈ (s.car k).queue, t.ofOrder o = false)) &&
  decide (∀ l, ∀ o ∈ (s.lane l).order, (s.lane l).state = .ready → s.orderTasks o = []) &&
  decide (∀ k, ∀ x ∈ (s.car k).slots, ∀ h ∈ x.held, (s.article? h.article).isSome = true) &&
  decide (∀ o, ∀ r ∈ s.order? o, (∀ n < r.lines.length, ∀ x ∈ r.lines[n]?, x.dispatched + s.picking o (n + 1) ≤ x.quantity ∧
      (r.state = .allocated ∨ r.state = .picking → x.dispatched + s.picking o (n + 1) = x.quantity)) ∧
    (r.state = .pending ∨ r.state = .allocated → ∀ x ∈ r.lines, x.dispatched = 0) ∧
    (r.state = .complete → ∀ x ∈ r.lines, x.dispatched = x.quantity) ∧
    (r.state = .short → ∀ t ∈ s.allTasks, t.ofOrder o = true → t.state = .withdrawn)) &&
  decide (∀ l, (∀ o ∈ (s.lane l).order, ∀ r ∈ s.order? o,
      (s.lane l).dispatched = (r.lines.map (·.dispatched)).sum ∧
      ((s.lane l).expected = if (s.lane l).short || (s.lane l).orphan then (r.lines.map (·.dispatched)).sum
        else (r.lines.map (·.quantity)).sum) ∧
      (((s.lane l).orphan = true ↔ r.state = .cancelled) ∧ (r.state = .short → (s.lane l).short = true) ∧
        ((s.lane l).short = true → r.state = .short ∨ r.state = .cancelled)) ∧
      ((s.lane l).state = .filling → r.state ≠ .complete) ∧ ((s.lane l).state = .ready → r.state ≠ .picking)) ∧
    ((s.lane l).state = .free → (s.lane l).expected = 0 ∧ (s.lane l).dispatched = 0 ∧ (s.lane l).short = false ∧
      (s.lane l).orphan = false) ∧
    ((s.lane l).timer.isSome = true ∨ (s.lane l).late = true →
      (s.lane l).state = .filling ∧ (s.lane l).arrived < (s.lane l).dispatched) ∧
    ((s.lane l).dispatched < (s.lane l).arrived → (s.lane l).overflow = true))

theorem lawful_of {s : State} (h : lawsHold s = true) : s.Lawful := by
  simp only [lawsHold, Bool.and_eq_true, decide_eq_true_eq] at h
  obtain ⟨⟨⟨⟨⟨⟨⟨⟨h1, h2⟩, h3⟩, h4, h5, h6, h7⟩, h8⟩, h9⟩, h10⟩, h11⟩, h12⟩ := h
  refine ⟨fun a e => ?_, fun k => ⟨(h2 k).1, (h2 k).2.1, (h2 k).2.2.1, (h2 k).2.2.2⟩, fun p r e => ?_, fun o r e => ?_, fun l => ?_,
    h4, fun t e => (h5 t e).1, fun t e => ⟨(h5 t e).2.1, (h5 t e).2.2.1, ?_⟩, h6, fun k t e => ⟨(h7 k t e).1, (h7 k t e).2.1⟩,
    fun k t e => (h7 k t e).2.2, fun k t e o r f g => ?_, fun o r e => (h8 o r e).2.1, fun l o e f => h9 l o f e,
    fun k x e y f => h10 k x e y f, fun p r e => (h3 p r e).2.2.2.2.2, fun o r e => (h8 o r e).1⟩
  · have w : a.carrier < (s.car a.carousel).geometry.n ∧ a.column < (s.car a.carousel).geometry.s := by
      simpa [Carousel.hasSlot] using e
    obtain ⟨g1, g2, g3, g4, g5⟩ := h1 a.carousel a.carrier w.1 a.column w.2
    exact ⟨g1, g2, g3, g4, g5⟩
  · obtain ⟨g1, g2, g3, g4, g5, _⟩ := h3 p r e
    exact ⟨g1, g2, g3, g4, g5⟩
  · obtain ⟨g1, g2, g3, g4⟩ := h11 o r e
    have w (n : Nat) (x : Line) (f : r.lines[n]? = some x) := g1 n (List.getElem?_eq_some_iff.mp f).1 x f
    exact ⟨fun i n x f => (w n x f).2 i, fun n x f => (w n x f).1, g2, g3, g4⟩
  · obtain ⟨g1, g2, g3, g4⟩ := h12 l
    exact ⟨fun o r e f => (g1 o e r f).1, fun o r e f => (g1 o e r f).2.1, fun o r e f => (g1 o e r f).2.2.1,
      fun o r e f => (g1 o e r f).2.2.2, g2, g3, g4⟩
  · have g := (h5 t e).2.2.2
    unfold State.Owned
    split <;> rename_i x y <;> rw [y] at g
    · simpa [Option.any_eq_true] using g
    · exact g
  · constructor <;> intro i <;> (have j := (h8 o r g).2.2 (by simp [i]) k t e; simp [f] at j)

theorem promised_lawful : ∀ b, (promised b).Lawful := fun b => lawful_of (by revert b; decide +kernel)

theorem promised_filled : ∀ b, (promised b).Filled := by unfold State.Filled; decide +kernel

/-- `State.InGeometry` in terms that are decided by evaluation. -/
def placesHold (s : State) : Bool :=
  decide (∀ k, (∀ x ∈ (s.car k).presented, x < (s.car k).geometry.n) ∧
    (∀ m ∈ (s.car k).gauge.measure, m.slot.carousel = k ∧ (s.car k).presented = some m.slot.carrier ∧
      m.slot.column < (s.car k).geometry.s ∧ ((s.car k).phase = .counting → m.purpose = .count) ∧
      ((s.car k).phase = .verifying → m.purpose = .verify ∧ (s.car k).unverified.head? = some m.slot.column)) ∧
    (∀ j ∈ (s.car k).unverified, j < (s.car k).geometry.s ∧ (s.car k).phase = .verifying) ∧
    (match (s.car k).audit with
      | .sweep w => decide (w.cursor < (s.car k).geometry.n ∧ ∀ j ∈ w.marks, j < (s.car k).geometry.s)
      | _ => true) = true)

theorem inGeometry_of {s : State} (h : placesHold s = true) : s.InGeometry := by
  intro k
  obtain ⟨h1, h2, h3, h4⟩ := of_decide_eq_true h k
  refine ⟨h1, fun m e => ?_, fun g m e => ?_, fun g m e => ?_, h3, fun w e => ?_⟩
  · obtain ⟨g1, g2, g3, _⟩ := h2 m e
    exact ⟨g1, g2, g3⟩
  · exact (h2 m e).2.2.2.1 g
  · exact (h2 m e).2.2.2.2 g
  · rw [e] at h4
    exact of_decide_eq_true h4

/-- `Lowest` in terms that are decided by evaluation. -/
theorem lowest_of {n : Nat} {p : Fin n → Prop} [DecidablePred p] {e : Fin n}
    (h : decide (p e ∧ ∀ f, f < e → ¬p f) = true) : Lowest p e :=
  of_decide_eq_true (p := p e ∧ ∀ f, f < e → ¬p f) h

/-! ## Worked examples of the spec -/

/-- R187. -/
theorem test_check_of_nine_bytes : frameCheck ((List.range 9).map fun i => low (0x31 + i)) = 0x29B1#16 := by decide +kernel

/-- R152, R154: code 522 at span 1600 is 815 mm, and code 1023 is 1598 mm. -/
theorem test_heights : heightOf 522 1600 = 815 ∧ heightOf 1023 1600 = 1598 := by decide

/-- The loads of the example of section 2.2. -/
def exampleLoads : List Nat := [400, 0, 960, 480, 0, 720, 240, 480]

/-- Section 2.2, the example's imbalances. -/
theorem test_imbalances : (List.range 8).map (imbalance 8 exampleLoads) = [0, 400, -320, -320, 0, -400, 320, 320] := by
  decide +kernel

/-- Section 2.2 and 2.3: the peak, and the peak after 120 hg on each carrier. -/
theorem test_peaks : peak 8 exampleLoads = 400 ∧
    (List.range 8).map (fun c => peak 8 (exampleLoads.set c ((exampleLoads[c]?).getD 0 + 120))) =
      [520, 520, 520, 440, 440, 440, 320, 400] := by decide +kernel

/-- R3: with N = 8, A = 2 and r = 1, carrier 1 stands at the opening; R53: carrier 6 lies three pitches forward. -/
theorem test_opening :
    let c := { Carousel.initial.rebuild (geometryOf 8 1 2 [(0, 4)]) with offset := 1 }
    c.atOpening = 1 ∧ c.travel 6 = (3, .forward) := by decide +kernel

/-- Section 3.5, the example: the HOME edge at held offset 3 is a slip of +3 and leaves four steps. -/
theorem test_home_slip : after (exec (.homeEdge 0) (running .forward 3 1)) (fun t =>
    ((t.car 0).offset, (t.car 0).remaining, t.link.notices.map (·.fields))) =
      some (0, 4, [[.u8 0, .u8 0, .u8 3, .mark false, .u8 3]]) := by decide +kernel

/-- R92: with the last number 6 and stores 2, 7 and 8 live the next is 9; with 254 and stores 255 and 1 live it is 2. -/
theorem test_store_numbers :
    ({ State.reset with
        lastStore := 6
        stores := #v[some { someStore .opened with number := 2 }, some { someStore .opened with number := 7 },
          some { someStore .opened with number := 8 }, none, none, none, none, none, none, none, none, none, none, none,
          none, none] } : State).nextStore = 9 ∧
    ({ State.reset with
        lastStore := 254
        stores := #v[some { someStore .opened with number := 255 }, some (someStore .opened), none, none, none, none, none,
          none, none, none, none, none, none, none, none, none] } : State).nextStore = 2 := by decide +kernel

/-- R17: a zone from carrier 6 to carrier 1 runs across carrier 0. -/
theorem test_zone_wraps : (List.range 8).filter (covers 6 1) = [0, 1, 6, 7] := by decide

/-- R57: a PULSE in reverse from offset 0 leads to offset N − 1. -/
theorem test_pulse_stopped_wraps :
    after (exec (.pulse 0) (shelfWith fun c => { c with state := .stopped, direction := .reverse })) (fun t =>
      (t.car 0).offset) = some 7 := by decide +kernel

/-- R49: the pulse that brings the homing count to N + 3 fails the homing. -/
theorem test_homing_fails :
    after (exec (.pulse 0) (shelfWith fun c =>
      { c with state := .homing, homingCount := 10, supervision := some ⟨2000, 9⟩ })) (fun t =>
      ((t.car 0).state, (t.car 0).cause)) = some (.fault, some .homeFail) := by decide +kernel

/-- R84, R85: DONE takes the PICK of two tyres down and then the PLACE of one up; the presentation then ends. -/
theorem test_done : after (exec (.doneKey 0) handling) (fun t => ((t.slot ⟨0, 3, 0⟩).count, (t.car 0).state)) =
    some (1, .idle) := by decide +kernel

/-- R87, R63: FAULT leaves the count, and sets the slot COUNT_DUE. -/
theorem test_fault_key : after (exec (.faultKey 0) handling) (fun t =>
    ((t.slot ⟨0, 3, 0⟩).count, (t.slot ⟨0, 3, 0⟩).due)) = some (2, true) := by decide +kernel

/-- R93, R97: a STORE of two tyres of the week held goes to the slot that holds them, and is store 1. -/
theorem test_store : after (exec (.store 1 7 5 2 4) shelf) (fun t =>
    ((t.slot ⟨0, 3, 0⟩).resIn, t.lastStore, t.workSeq)) = some (2, 1, 1) := by decide +kernel

/-- R113, R136: an order that stock fills is granted the lowest lane in its own event; R118 reserves the tyres. -/
theorem test_order : after (exec (.order 1 901 1 [⟨7, 2, 0⟩]) shelf) (fun t =>
    ((t.slot ⟨0, 3, 0⟩).resOut, (t.order? 0).map (·.state), (t.lane 0).order)) =
      some (2, some .picking, some 0) := by decide +kernel

/-- R139: an arrival that reaches the dispatches of a lane still expecting tyres does not make it READY. -/
theorem test_arrive : after (exec (.arrive 2) (laned (someOrder .picking (some 2) 1) (someLane .filling 2 1 0)))
    (fun t => (t.lane 2).state) = some .filling := by decide +kernel

/-- R140: an arrival that settles a lane whose order holds no task makes it READY and the order COMPLETE. -/
theorem test_arrive_ready : after (exec (.arrive 2) (laned (someOrder .picking (some 2) 2) (someLane .filling 2 2 1)))
    (fun t => ((t.lane 2).state, (t.order? 0).map (·.state))) = some (.ready, some .complete) := by decide +kernel

/-- R190: a frame of kind 0x01 is the STATUS request, and one of kind 0x24 with item 9 names no policy. -/
theorem test_request_kinds : decodeRequest 0x01 33 [] = .request (.status 33) ∧
    decodeRequest 0x24 1 [9#8, 0#8, 0#8] = .badValue ∧ decodeRequest 0x55 1 [] = .badForm := by decide +kernel

/-- R199: the order of three lines has a body of fifteen bytes, of which this is the form of the first line. -/
theorem test_order_body : decodeRequest 0x20 9 [0x03#8, 0x85#8, 2#8, 0x1E#8, 0x32#8, 4#8, 1#8] =
    .request (.order 9 901 2 [⟨7730, 4, 1⟩]) := by decide +kernel

/-- R24, R35: above the BALANCE-LIMIT an armed mark is disarmed with BALANCE-HIGH. -/
theorem test_balance_high :
    let s := (shelfWith fun c => { c with projPeak := 15001 }).evalMark 0
    ((s.car 0).armed, s.link.notices.map (·.kind)) = (false, [.balanceHigh]) := by decide +kernel

/-- R97, R43, R37: a STORE whose places cross the BALANCE-LIMIT raises BALANCE-HIGH before the fill sends the carousel off, whose
motion start raises CREEP-OFF. -/
theorem test_mark_before_run :
    after (exec (.store 1 7 5 2 4) (shelfWith fun c =>
      { c with creep := true, limits := { c.limits with balanceLimit := 300 } })) (fun t =>
      (t.link.notices.map (·.kind), (t.car 0).state)) = some ([.balanceHigh, .creepOff], .moving) := by decide +kernel

/-! ## Witnesses: step, invariants and the link -/

theorem witness_StepTakesFront : ({ shelf with pending := [.gapTimeout] } : State).pending = .gapTimeout :: [] := rfl

theorem witness_IdleStepPassesOneMillisecond : shelf.pending = [] ∧
    (shelf.car 0).slots[3]? = some ⟨some ⟨0, 5⟩, 2, 0, 0, false, false, false, .sound⟩ := by decide +kernel

/-- A state away from reset: an order holds a lane, and a command waits. -/
def living : State :=
  { laned (someOrder .picking (some 2) 1) (someLane .filling 2 1 0) with pending := [.readGauge 1 0] }

theorem living_bounded : living.Bounded := by constructor <;> decide +kernel

theorem living_inRange : living.InRange where
  week := by decide +kernel
  setSpread := by decide +kernel
  laneCap := by decide +kernel
  transitTimeout := by decide +kernel
  gaugeSpan := by decide +kernel
  widths := by decide +kernel
  articles := by
    show ∀ p : Fin 256, ∀ x ∈ living.articles[p.val], x.inRanges = true
    decide +kernel
  limits := by intro k; constructor <;> revert k <;> decide +kernel
  staged := by
    intro k l h
    have e : ∀ k, (living.car k).staged = none := by decide +kernel
    rw [e k] at h; cases h

theorem living_shaped : living.Shaped := by
  intro k
  constructor <;> revert k <;> decide +kernel

theorem living_coherent : living.Coherent := by intro k; constructor <;> revert k <;> decide +kernel

theorem living_paired : living.Paired :=
  paired_of (by decide +kernel) (by decide +kernel) (by decide +kernel)

theorem promised_inGeometry : ∀ b, (promised b).InGeometry := fun b => inGeometry_of (by revert b; decide +kernel)

/-- Carousel A presenting carrier 3, whose only handled slot is yet to be verified, under a sweep whose cursor stands there. -/
def verifying : State :=
  shelfWith fun c =>
    { c with state := .presenting, phase := .verifying, presented := some 3, unverified := [0]
             gauge := ⟨.converting, some ⟨⟨0, 3, 0⟩, .verify⟩, some 0, .second, none⟩
             audit := .sweep ⟨0, 7, 3, 5, [0]⟩ }

theorem verifying_sound : verifying.Sound := by unfold State.Sound; decide +kernel

theorem verifying_shaped : verifying.Shaped := by intro k; constructor <;> revert k <;> decide +kernel

/-- For the eight invariants that every step keeps. -/
theorem witness_invariants : living.Bounded ∧ living.InRange ∧ (promised false).Shaped ∧ (promised false).Coherent ∧
    (promised false).Paired ∧ (promised false).InGeometry ∧ (promised false).Lawful ∧ (promised false).Filled ∧
    (∃ t, step living = .next t) ∧ (∃ t, step (promised false) = .next t) ∧
    verifying.Shaped ∧ verifying.Coherent ∧ verifying.Paired ∧ verifying.InGeometry ∧ verifying.Lawful ∧
    ∃ t, step { verifying with pending := [.conversionComplete 0 384] } = .next t :=
  ⟨living_bounded, living_inRange, promised_shaped _, promised_coherent _, promised_paired _, promised_inGeometry _,
    promised_lawful _, promised_filled _, ⟨_, rfl⟩, ⟨_, rfl⟩, verifying_shaped,
    by intro k; constructor <;> revert k <;> decide +kernel, paired_of (by decide +kernel) (by decide +kernel) (by decide +kernel),
    inGeometry_of (by decide +kernel), lawful_of (by decide +kernel), ⟨_, rfl⟩⟩

theorem witness_ReceiverTakesBytes : State.reset.link.receiver = .hunt ∧ 0#8 ≠ 0xA5#8 ∧
    (receiving .length 20).link.gap ≤ 20 ∧ 2 ≤ (2#8).toNat ∧ (250#8).toNat ≤ 250 ∧
    (receiving (.content 2 []) 20).link.receiver = .content 2 [] ∧ ([] : List Byte).length + 1 < 2 ∧
    (receiving (.content 2 [1#8]) 20).link.receiver = .content 2 [1#8] ∧ [1#8].length + 1 = 2 ∧
    (receiving (.check 2 [1#8, 1#8] none) 20).link.receiver = .check 2 [1#8, 1#8] none := by decide

theorem witness_BrokenFramesAreDiscarded : State.reset.link.receiver = .hunt ∧
    (receiving .length 20).link.receiver ≠ .hunt ∧ (receiving .length 20).link.gap ≤ 20 ∧
    20 < (receiving .length 21).link.gap ∧ (1#8).toNat < 2 ∧ 250 < (251#8).toNat ∧
    [1#8].length < 2 ∧ 250 < (List.replicate 251 0#8).length ∧ frameCheck [2#8, 1#8, 1#8] ≠ 0#16 := by decide +kernel

/-- The part with so many frames waiting. -/
def waitingFrames (n : Nat) : State :=
  { State.reset with link := { State.reset.link with received := List.replicate n ⟨1, 1, []⟩ } }

theorem witness_FramesAreQueuedOrRefused : (List.replicate 248 0#8).length ≤ 248 ∧ (waitingFrames 3).link.received.length < 4 ∧
    (waitingFrames 3).link.received ≠ [] ∧ 4 ≤ (waitingFrames 4).link.received.length := by decide +kernel

/-- A reply of a STATUS and a notice. -/
def someReply : Reply := ⟨1, 1, .accepted, [], true⟩
def someNotice : Notice := ⟨.stopped, 1, 0, []⟩

/-- The part with replies and notices waiting, the source served last as given. -/
def sendable (rs : List Reply) (ns : List Notice) (src : Source) : State :=
  { State.reset with link := { State.reset.link with replies := rs, notices := ns, lastSource := src } }

theorem witness_FramesAreDispatched : ([] : List Byte).length ≤ 248 ∧ State.reset.link.received = [] ∧
    State.reset.link.free = true ∧ decodeRequest (0x55#8).toNat (1#8).toNat [] = .badForm ∧
    decodeRequest (0x24#8).toNat (1#8).toNat [5#8, 0#8, 0#8] = .badValue ∧
    decodeRequest (1#8).toNat (1#8).toNat [] = .request (.status 1) ∧
    (waitingFrames 1).link.received = ⟨1, 1, []⟩ :: [] ∧ (waitingFrames 1).link.free = true ∧
    (sendable [someReply] [] .notice).link.free = false := by decide +kernel

theorem witness_BytesMakeFrames : 2 ≤ [1#8, 1#8].length ∧ [1#8, 1#8].length ≤ 250 ∧
    (List.replicate 250 0#8).length ≤ 250 ∧ State.reset.link.receiver = .hunt := by decide +kernel

theorem witness_TransmitterAlternates :
    (sendable [] [] .notice).link.replies = [] ∧ (sendable [] [] .notice).link.notices = [] ∧
    (sendable [someReply] [someNotice] .notice).link.sending = none ∧
    (sendable [someReply] [someNotice] .notice).link.replies = someReply :: [] ∧
    (sendable [someReply] [someNotice] .notice).link.lastSource = .notice ∧
    (sendable [someReply] [someNotice] .reply).link.notices = someNotice :: [] ∧
    (sendable [someReply] [someNotice] .reply).link.lastSource = .reply := by decide +kernel

/-- The part while it sends a frame. -/
def sendingFrame (f : TxFrame) : State := { State.reset with link := { State.reset.link with sending := some f } }

theorem witness_SentFramesFreeTheTransmitter :
    (sendingFrame (.notice someNotice)).link.sending = some (.notice someNotice) ∧
    ({ someReply with solicited := false } : Reply).solicited = false ∧
    ({ someReply with kind := 2 } : Reply).kind = 0x02 ∧ someReply.status = .accepted ∧ someReply.solicited = true ∧
    someReply.kind ≠ 0x02 ∧ (sendingFrame (.reply someReply)).link.sending = some (.reply someReply) := by decide +kernel

theorem witness_NoticesTakeNumbersInTurn :
    (sendable [] (List.replicate 47 someNotice) .reply).link.lastNumber ≤ 65535 ∧
    (sendable [] (List.replicate 47 someNotice) .reply).link.notices.length < 48 ∧
    48 ≤ (sendable [] (List.replicate 48 someNotice) .reply).link.notices.length ∧
    ({ State.reset.link with lastNumber := 65535 } : Link).lastNumber ≤ 65535 := by decide +kernel

/-! ## Witnesses: slot memory and queries -/

theorem shelf_sound : shelf.Sound := by unfold State.Sound; decide +kernel

theorem shelf_shaped : shelf.Shaped := by intro k; constructor <;> revert k <;> decide +kernel

/-- The shelf with a Gauge Unit as given. -/
def gauging (st : GaugeState) (f : InFlight) : State :=
  shelfWith fun c =>
    { c with state := .presenting, phase := .counting, presented := some 3
             gauge := ⟨st, some ⟨⟨0, 3, 0⟩, .count⟩, some 0, f, none⟩ }

theorem gauging_coherent : (gauging .converting .second).Coherent := by intro k; constructor <;> revert k <;> decide +kernel

theorem witness_ResetEffectClearsTheWork :
    (∃ r, (handling.car 0).slots[3]? = some r ∧ r.damage = .sound ∧ r.count = 2) ∧ (promised true).Coherent ∧
    (gauging .converting .second).Coherent ∧ ((gauging .converting .second).car 0).gauge.measure.isSome = true :=
  ⟨⟨_, rfl, by decide +kernel⟩, promised_coherent _, gauging_coherent, by decide +kernel⟩

/-- The shelf with a store and an order held. -/
def stocked : State := (shelf.setStore 0 (some (someStore .opened))).setOrder 0 (some (someOrder .pending none 0))

theorem witness_QueriesOnlyAnswer : stocked.Sound ∧ (stocked.car 0).hasSlot 7 0 = true ∧ stocked.articleAt 7 = some 0 ∧
    stocked.storeAt 1 = some 0 ∧ stocked.store? 0 = some (someStore .opened) ∧ stocked.orderAt 901 = some 0 ∧
    stocked.order? 0 = some (someOrder .pending none 0) := by
  refine ⟨by unfold State.Sound; decide +kernel, ?_⟩
  decide +kernel

/-- The state of a shelf with the record of slot (A, 3, 0) at fault. -/
def struck (s : State) (d : Damage) : State := s.strike ⟨⟨0, 3, 0⟩, d⟩

/-- Fields read of a faulted record, without an article. -/
def someRaw : RawRecord := ⟨none, some 9, 7, 0, 0, false, false, false⟩

theorem struck_shaped : ∀ b, (struck (promised b) (.uncorrectable someRaw)).Shaped := by
  intro b k; constructor <;> revert b k <;> decide +kernel

theorem witness_ReadsMeetIntegrityFaults : (shelf.car 0).hasSlot 3 0 = true ∧
    (∀ b, (struck (promised b) (.uncorrectable someRaw)).Shaped) ∧
    ((struck shelf .correctable).slot ⟨0, 3, 0⟩).damage = .correctable ∧
    ((struck (promised false) (.uncorrectable someRaw)).slot ⟨0, 3, 0⟩).damage = .uncorrectable someRaw ∧
    ({ someRaw with article := some 0 } : RawRecord).article = some 0 ∧ shelf.article? 0 = some ⟨7, 0, 200, 100, 52⟩ ∧
    someRaw.article = none ∧
    (struck (promised false) (.uncorrectable someRaw)).placesOn ⟨0, 3, 0⟩ = [put .queued] ∧
    (struck (promised false) (.uncorrectable someRaw)).store? 0 = some (someStore .opened) ∧
    ((struck (promised false) (.uncorrectable someRaw)).modCar 0 fun c =>
      { c with queue := [pick .queued none] }).placesOn ⟨0, 3, 0⟩ = [] ∧
    ((struck (promised false) (.uncorrectable someRaw)).modCar 0 fun c =>
      { c with queue := [pick .queued none] }).picksOn ⟨0, 3, 0⟩ = [pick .queued none] ∧
    (struck (promised false) (.uncorrectable someRaw)).order? 0 = some (someOrder .picking (some 2) 0) ∧
    (struck shelf (.uncorrectable someRaw)).allTasks = [] ∧
    (∀ j, j < (shelf.car 0).geometry.s → j ≠ 0 → (shelf.slot ⟨0, 3, j⟩).damage = .sound) ∧ shelf.articleAt 7 = some 0 ∧
    put .queued ∈ ((struck (promised false) (.uncorrectable someRaw)).car 0).queue := by
  refine ⟨?_, struck_shaped, ?_⟩ <;> decide +kernel

theorem witness_BadCarouselsAreRefused : 4 ≤ 4 ∧ 8 ≤ 8 ∧ shelf.articleAt 7 = some 0 ∧ 5 ≠ 4 ∧
    (shelf.car 0).hasSlot 7 1 = false ∧ (shelf.car 0).hasSlot 8 0 = false ∧ (shelf.car 3).hasSlot 0 0 = false ∧
    (∀ p : Fin 256, ∀ x ∈ shelf.articles[p.val], x.code ≠ 8) ∧ 2 ≤ 2 ∧ 255 < 256 ∧ 1 ≤ 255 ∧ 255 ≤ 255 ∧
    (∀ p, ∀ r ∈ stocked.store? p, r.number ≠ 255) ∧ 65535 < 65536 ∧ 1 ≤ 65535 ∧ 65535 ≤ 65535 ∧
    (∀ o, ∀ r ∈ stocked.order? o, r.code ≠ 65535) := by decide +kernel

theorem witness_SideSignsAreOpposite : 8 % 2 = 0 ∧ 8 ≤ 8 ∧ 7 < 8 ∧ 1 ≤ 8 / 2 - 1 ∧ 8 / 2 + 1 ≤ 8 - 1 ∧ 8 / 2 < 8 := by decide

theorem witness_PeakIsTheLargestImbalance : 48 % 2 = 0 ∧ 8 ≤ 48 ∧ 47 < 48 := by decide

theorem witness_EstimateIsTheNearestCount : 0 < 1 ∧ 2997 ≤ 2997 ∧ 105 ≤ 105 ∧ 205 % 2 = 1 ∧ 0 < 200 ∧ 200 % 2 = 0 := by decide

/-! ## Witnesses: the drives -/

theorem witness_OutputsFollowTheState :
    ({ stand with state := .homing } : Carousel).state = .homing ∧ ((running .forward 3 1).car 0).state = .moving ∧
    ((running .forward 3 1).car 0).direction = .forward ∧
    ((running .reverse 3 1).car 0).direction = .reverse ∧ stand.state ≠ .homing ∧ stand.state ≠ .moving ∧
    (handling.car 0).state = .presenting ∧ (handling.car 0).phase = .handling ∧
    ((handling.car 0).queue.filter fun t => t.slot.column = 0 && t.state = .shown) ≠ [] ∧
    ((handling.car 0).queue.filter fun t => t.slot.column = 1) = [] ∧
    ((handling.modCar 0 fun c => { c with queue := [pick .withdrawn none] }).car 0).queue.filter
      (fun t => t.slot.column = 0 && t.state = .withdrawn) ≠ [] := by decide +kernel

/-- The part with carousel A of the shelf in a state and without stock. -/
def bare (st : CarouselState) (a : Audit) : State := State.reset.setCar 0 { stand with state := st, audit := a }

theorem witness_SetCarouselRebuilds : geometryOk 7 1 1 [(0, 4)] = false ∧ geometryOk 48 6 23 (List.replicate 6 (7, 12)) = true ∧
    geometryOk 8 1 1 [(0, 1)] = true ∧ ((bare .idle .none).car 0).state ≠ .offline ∧
    ((bare .offline .suspect).car 0).audit ≠ .none ∧ ((bare .offline .none).car 0).state = .offline ∧
    ((bare .offline .none).car 0).audit = .none ∧ ((bare .offline .none).car 0).inUse = false ∧
    ((bare .offline .none).car 0).creep = false ∧
    (((bare .offline .none).modCar 0 fun c => { c with creep := true }).car 0).creep = true ∧
    (((bare .offline .none).modCar 0 fun c => { c with creep := true }).car 0).inUse = false ∧
    ((shelfWith fun c => { c with state := .offline }).car 0).inUse = true ∧
    ((shelfWith fun c => { c with state := .offline }).car 0).audit = .none := by decide +kernel

/-- An OFFLINE carousel with the queue of `promised`. -/
def offlineQueue : State := (promised false).modCar 0 fun c => { c with state := .offline }

theorem witness_LimitsAreClampedAndTaken : 3 ≤ 3 ∧ 2 ≤ 2 ∧ starveMode? 2 = some .hold ∧ mark? 1 = some true ∧
    (shelf.car 0).state = .idle ∧ offlineQueue.Sound ∧ (offlineQueue.car 0).state = .offline ∧
    ((offlineQueue.car 0).queue.map (·.id)).Nodup ∧ pick .queued none ∈ (offlineQueue.car 0).queue ∧
    (∀ t ∈ (offlineQueue.car 0).queue, t.isPick = false ∨ t.state ≠ .queued → t.starving = none) ∧
    ((running .forward 3 1).car 0).state ≠ .idle ∧ ((running .forward 3 1).car 0).state ≠ .offline := by
  refine ⟨?_, ?_, ?_, ?_, ?_, by unfold State.Sound; decide +kernel, ?_⟩ <;> decide +kernel

theorem witness_HomeBeginsHoming : (shelf.car 0).geometry.n ≠ 0 ∧ shelf.estopLevel = false ∧ (shelf.car 0).state = .idle ∧
    ({ shelf with pending := [.estopAssert] } : State).estopLevel = true ∧
    ((running .forward 3 1).car 0).state = .moving ∧ (shelf.car 0).creep = (shelf.car 0).creeps ∧
    ((shelfWith fun c => { c with creep := true }).car 0).creep ≠ ((shelfWith fun c => { c with creep := true }).car 0).creeps := by
  decide +kernel

/-- R37, R48: homing that turns the creep flag off tells it. -/
theorem test_home_tells_creep : after (exec (.home 1 0) (shelfWith fun c => { c with creep := true }))
    (fun t => (t.link.notices.map (·.kind), (t.car 0).creep)) = some ([.creepOff], false) := by decide +kernel

theorem witness_CloseTakesAnIdleCarouselOffline : (shelf.car 0).state = .idle ∧ (shelf.car 0).queue = [] ∧
    (∀ t ∈ shelf.waiting, t.slot.carousel ≠ 0) ∧ (∀ r ∈ (shelf.car 0).slots, r.due = false) ∧
    (shelf.car 0).audit = .none ∧ (handling.car 0).state ≠ .idle := by decide +kernel

/-- The shelf STOPPED, with its position known or not. -/
def halted (known : Bool) : State := shelfWith fun c => { c with state := .stopped, known := known }

theorem witness_ResumeRestartsACarousel : ({ halted true with estop := true } : State).estopLevel = true ∧
    (halted true).estopLevel = false ∧
    ((halted true).car 0).state = .stopped ∧ ((halted true).car 0).known = true ∧ ((halted false).car 0).known = false ∧
    ((halted true).car 0).staged = none ∧
    (((halted true).modCar 0 fun c => { c with staged := some { c.limits with driveLimit := 100 } }).car 0).staged ≠ none ∧
    ((halted true).car 0).queue = [] ∧
    (∀ r ∈ ((halted true).car 0).slots, r.due = false) ∧ (∀ o, ∀ r ∈ (halted true).order? o, r.state ≠ .pending) ∧
    (shelf.car 0).state ≠ .stopped ∧ (shelf.car 0).state ≠ .fault ∧
    ((shelfWith fun c => { c with state := .fault }).car 0).state = .fault ∧
    (let s := (promised false).modCar 0 fun c => { c with state := .stopped }
     s.estopLevel = false ∧ (s.car 0).state = .stopped ∧ (s.car 0).known = true ∧ (s.car 0).staged = none ∧
      (∀ o, ∀ r ∈ s.order? o, r.state ≠ .pending) ∧ (s.car 0).geometry.n ≠ 0 ∧
      (s.modCar 0 fun c => { c with state := .idle }).select 0 = some 3 ∧ (s.car 0).stepsTo 3 ≠ 0) := by decide +kernel

/-- Every clause of `State.EndedEarly`: a measurement in COUNTING and in VERIFYING, tasks shown in HANDLING, a slot sent for count
before, and a handled slot not yet verified. -/
theorem witness_EndedEarly :
    ((gauging .converting .second).car 0).gauge.measure = some ⟨⟨0, 3, 0⟩, .count⟩ ∧
    ((gauging .converting .second).car 0).phase = .counting ∧ (verifying.car 0).gauge.measure = some ⟨⟨0, 3, 0⟩, .verify⟩ ∧
    ((promised true).allTasks.map (·.id)).Nodup ∧ ((promised true).car 0).phase = .handling ∧ (promised true).Sound ∧
    (promised true).Shaped ∧ ((promised true).car 0).hasSlot 3 0 = true ∧ verifying.Sound ∧ verifying.Shaped ∧
    (verifying.allTasks.map (·.id)).Nodup ∧ (verifying.car 0).phase = .verifying ∧ (verifying.car 0).presented = some 3 ∧
    0 ∈ (verifying.car 0).unverified ∧ (verifying.car 0).hasSlot 3 0 = true ∧
    (let s := verifying.putSlot ⟨0, 5, 0⟩ ⟨none, 0, 0, 0, true, false, false, .sound⟩
     (s.slot ⟨0, 5, 0⟩).due = true ∧ (s.car 0).hasSlot 5 0 = true) :=
  ⟨by decide +kernel, by decide +kernel, by decide +kernel, by decide +kernel, by decide +kernel, promised_sound _,
    promised_shaped _, by decide +kernel, verifying_sound, verifying_shaped, by decide +kernel⟩

/-- R59, R67, R88: a DRIFT fault tells the state left and the carrier, sends the slot not yet verified for count and returns what
was shown. -/
theorem test_drift :
    after (exec (.pulse 0) verifying) (fun t =>
      (t.link.notices.map fun x => (x.kind, x.fields.take 5), (t.slot ⟨0, 3, 0⟩).due, (t.car 0).gauge.measure)) =
      some ([(.carouselFault, [.u8 0, .u8 FaultCause.drift.code, .u8 1, .mark true, .u8 3])], true, none) ∧
    after (exec (.pulse 0) (promised true)) (fun t => ((t.car 0).state, (t.car 0).queue.map (·.state))) =
      some (.fault, [.queued, .queued]) := by decide +kernel

theorem witness_EmergencyStopStopsEveryCarousel : ((promised true).car 0).state = .presenting ∧
    ((promised true).car 1).state = .offline ∧ (promised true).Sound ∧ ((promised true).allTasks.map (·.id)).Nodup ∧
    ((promised true).car 0).phase = .handling ∧ ((promised false).car 0).state = .idle ∧
    ((promised false).car 0).phase ≠ .handling ∧ ((gauging .converting .second).car 0).phase = .counting ∧
    ((gauging .converting .second).car 0).gauge.measure = some ⟨⟨0, 3, 0⟩, .count⟩ := by
  refine ⟨?_, ?_, promised_sound _, ?_⟩ <;> decide +kernel

/-- The shelf in HOMING with so many pulses counted. -/
def homing (count : Nat) : State := shelfWith fun c => { c with state := .homing, homingCount := count }

/-- One step short of carrier 3, with the queue of `promised`. -/
def arriving : State :=
  (promised false).modCar 0 fun c =>
    { c with state := .moving, offset := 5, target := some 6, remaining := 1, presented := some 3, supervision := some ⟨2000, 9⟩ }

theorem witness_PulsesCountPitches : (shelf.car 0).geometry.n ≠ 0 ∧ ((homing 9).car 0).state = .homing ∧
    ((homing 9).car 0).homingCount + 1 < ((homing 9).car 0).geometry.n + 3 ∧
    ((homing 10).car 0).geometry.n + 3 ≤ ((homing 10).car 0).homingCount + 1 ∧
    ((running .forward 3 2).car 0).state = .moving ∧ 2 ≤ ((running .forward 3 2).car 0).remaining ∧ (homing 10).Sound ∧
    (arriving.car 0).remaining = 1 ∧ arriving.Sound ∧ ((running .forward 3 1).car 0).remaining = 1 ∧
    (handling.car 0).state = .presenting := by
  refine ⟨?_, ?_, ?_, ?_, ?_, ?_, by unfold State.Sound; decide +kernel, ?_, by unfold State.Sound; decide +kernel, ?_⟩ <;> decide +kernel

/-- The three ends of the last step: HANDLING with the tasks of the carrier shown, COUNTING its slot sent for count, and the end of
a presentation with nothing to do. -/
theorem test_pulse_presents :
    after (exec (.pulse 0) arriving) (fun t => ((t.car 0).phase, (t.car 0).queue.map (·.state))) =
      some (.handling, [.shown, .shown]) ∧
    after (exec (.pulse 0) (arriving.modCar 0 fun c => { c with slots := c.slots.map fun r => { r with due := true } }))
      (fun t => ((t.car 0).phase, (t.car 0).gauge.measure)) = some (.counting, some ⟨⟨0, 3, 0⟩, .count⟩) ∧
    after (exec (.pulse 0) (running .forward 3 1)) (fun t => ((t.car 0).state, (t.car 0).offset)) = some (.idle, 4) := by
  decide +kernel

theorem witness_HomeEdgesCorrectTheOffset : (shelf.car 0).geometry.n ≠ 0 ∧ ((homing 0).car 0).state = .homing ∧
    ((running .forward 0 4).car 0).offset = 0 ∧ (handling.car 0).offset = 0 ∧
    ((running .reverse 3 1).car 0).state = .moving ∧ ((running .reverse 3 1).car 0).offset ≠ 0 ∧
    ((running .reverse 3 1).car 0).target = some 4 ∧ 4 < ((running .reverse 3 1).car 0).geometry.n ∧
    (8 - 4) % 8 ≠ 0 ∧ (arriving.car 0).offset ≠ 0 ∧ ((arriving.modCar 0 fun c => { c with target := some 0 }).car 0).target = some 0 ∧
    ((shelfWith fun c => { c with state := .presenting, offset := 1 }).car 0).offset ≠ 0 := by decide +kernel

theorem witness_EdgesTakenAtRest : (State.reset.car 0).state = .offline ∧ ((halted true).car 0).state = .stopped ∧
    (shelf.car 0).state = .idle ∧ (shelf.car 0).offset = 0 ∧
    ((shelfWith fun c => { c with offset := 7 }).car 0).offset ≠ 0 := by decide +kernel

theorem witness_PulseTimerExpiryStalls : ((running .forward 3 1).car 0).supervision = some ⟨2000, 700⟩ ∧
    (shelf.car 0).supervision = none := by decide +kernel

theorem handling_sound : handling.Sound := by unfold State.Sound; decide +kernel

/-- Carousel A presenting carrier 3 with one task shown. -/
def shownAlone (t : Task) : State := (promised true).modCar 0 fun c => { c with queue := [t] }

/-- `promised true` with its PLACE still QUEUED, so that only the PICK is shown, and a second order PENDING. -/
def waitingBehind : State :=
  ((promised true).modCar 0 fun c => { c with queue := [pick .shown none, put .queued] }).setOrder 1
    (some { someOrder .pending none 0 with code := 902, seq := 1 })

theorem waitingBehind_sound : waitingBehind.Sound := by unfold State.Sound; decide +kernel

theorem waitingBehind_shaped : waitingBehind.Shaped := by intro k; constructor <;> revert k <;> decide +kernel

theorem waitingBehind_lawful : waitingBehind.Lawful := lawful_of (by decide +kernel)

/-- R84, R85, R137: DONE of a PICK and a PLACE empties the queue and both reservations, and dispatches the PICK. -/
theorem test_done_leaves : after (exec (.confirmDone 1 0) (promised true)) (fun t =>
    ((t.car 0).queue.length, (t.slot ⟨0, 3, 0⟩).resOut, (t.slot ⟨0, 3, 0⟩).resIn, (t.lane 2).dispatched, (t.lane 2).expected)) =
      some (0, 0, 0, 2, 2) := by decide +kernel

/-- `promised true` with VERIFY on. -/
def verified : State := (promised true).modCar 0 fun c => { c with limits := { c.limits with verify := true } }

/-- R66, R158: with VERIFY on DONE goes on to VERIFYING with the handled column measured; with VERIFY off it ends in IDLE. -/
theorem test_done_verifies :
    after (exec (.doneKey 0) verified) (fun t => ((t.car 0).phase, (t.car 0).gauge.measure, (t.car 0).unverified)) =
      some (.verifying, some ⟨⟨0, 3, 0⟩, .verify⟩, [0]) ∧
    after (exec (.doneKey 0) (promised true)) (fun t => ((t.car 0).state, (t.car 0).phase, (t.car 0).presented)) =
      some (.idle, .none, none) := by decide +kernel

theorem witness_DoneMovesTheCounts : ((promised true).car 0).handling = true ∧ (promised true).Sound ∧
    (promised true).Shaped ∧ (promised true).Lawful ∧ (∀ o, ∀ r ∈ (promised true).order? o, r.state ≠ .pending) ∧
    ((promised true).car 0).hasSlot 3 0 = true ∧ (waitingBehind.car 0).handling = true ∧ waitingBehind.Sound ∧
    waitingBehind.Shaped ∧ waitingBehind.Lawful ∧
    ((waitingBehind.car 0).queue.filter fun t => t.state = .queued) = [put .queued] ∧
    (∃ r, ((promised true).car 0).slots[3]? = some r) ∧ ((shownAlone (pick .shown none)).car 0).handling = true ∧
    (shownAlone (pick .shown none)).Sound ∧ (shownAlone (put .shown)).Sound ∧
    ((shownAlone (pick .shown none)).car 0).queue = [pick .shown none] ∧
    (shownAlone (pick .shown none)).order? 0 = some (someOrder .picking (some 2) 0) ∧
    ((shownAlone (pick .shown none)).lane 2).state = .filling ∧
    ((shownAlone (pick .shown none)).lane 2).arrived < ((shownAlone (pick .shown none)).lane 2).dispatched + 2 ∧
    (shownAlone (pick .shown none)).Paired ∧ ((shownAlone (put .shown)).car 0).queue = [put .shown] ∧
    (shownAlone (put .shown)).store? 0 = some (someStore .opened) ∧
    (∀ x ∈ (shownAlone (put .shown)).allTasks, x.ofStore 0 = true → x.state ≠ .withdrawn) ∧ 1 = (someStore .opened).quantity ∧
    (verified.car 0).handling = true ∧ verified.Sound ∧ (verified.car 0).limits.verify = true ∧
    ((List.range (verified.car 0).geometry.s).filter fun j => (verified.car 0).queue.any fun t => t.slot.column = j) = [0] ∧
    ((promised true).car 0).limits.verify = false :=
  ⟨by decide +kernel, promised_sound _, promised_shaped _, promised_lawful _, by decide +kernel, by decide +kernel, by decide +kernel,
    waitingBehind_sound, waitingBehind_shaped, waitingBehind_lawful, by decide +kernel, ⟨_, rfl⟩, by decide +kernel,
    by unfold State.Sound; decide +kernel, by unfold State.Sound; decide +kernel, by decide +kernel, by decide +kernel, by decide +kernel, by decide +kernel,
    paired_of (by decide +kernel) (by decide +kernel) (by decide +kernel), by decide +kernel, by decide +kernel,
    by decide +kernel, by decide, by decide +kernel, by unfold State.Sound; decide +kernel, by decide +kernel, by decide +kernel,
    by decide +kernel⟩

/-- `promised true` after the DROP-STORE of its store: the PLACE is WITHDRAWN. -/
def withdrawing : State :=
  ((((promised true).setStore 0 (some { someStore .closing with quantity := 0, placements := [] })).putSlot ⟨0, 3, 0⟩
    ⟨some ⟨0, 5⟩, 2, 2, 0, false, false, false, .sound⟩).modCar 0 fun c => { c with queue := [pick .shown none, put .withdrawn] }).reweigh
      0 3

theorem witness_FaultSendsTheSlotsForCount : (handling.car 0).handling = true ∧ handling.Sound ∧
    pick .shown none ∈ (handling.car 0).queue ∧ (handling.car 0).index 3 0 = 3 ∧
    ((promised true).car 0).handling = true ∧ (promised true).Sound ∧ (promised true).Shaped ∧ (promised true).Lawful ∧
    ((promised true).car 0).queue = [pick .shown none, put .shown] ∧
    (withdrawing.car 0).handling = true ∧ withdrawing.Sound ∧ withdrawing.Shaped ∧ withdrawing.Lawful ∧
    (withdrawing.car 0).queue = [pick .shown none, put .withdrawn] :=
  ⟨by decide +kernel, handling_sound, by decide +kernel, by decide +kernel, by decide +kernel, promised_sound _, promised_shaped _,
    promised_lawful _, by decide +kernel, by decide +kernel, by unfold State.Sound; decide +kernel,
    by intro k; constructor <;> revert k <;> decide +kernel, lawful_of (by decide +kernel), by decide +kernel⟩

/-- R86, R87: of a PICK shown and a PLACE withdrawn FAULT returns the one, which the COUNT_DUE slot then keeps QUEUED, and removes the
other. -/
theorem test_fault_returns : after (exec (.faultKey 0) withdrawing) (fun t =>
    ((t.car 0).queue.map fun x => (x.id, x.state), (t.slot ⟨0, 3, 0⟩).resOut)) = some ([(0, .queued)], 2) := by decide +kernel

theorem witness_ConfirmationsNeedHandling : (shelf.car 0).state ≠ .presenting ∧
    ((shelfWith fun c => { c with state := .presenting, phase := .counting }).car 0).phase ≠ .handling := by decide +kernel

/-- The queue of `promised` with its PICK starving under the mode HOLD. -/
def starved : State :=
  (promised false).modCar 0 fun c =>
    { c with queue := [pick .queued (some 0), put .queued], limits := { c.limits with starveMode := .hold } }

theorem witness_HoldTimerExpiryEndsStarving :
    ((shelfWith fun c => { c with queue := [pick .queued (some 0), put .queued] }).car 0).queue[0]? =
      some (pick .queued (some 0)) ∧ (pick .queued (some 0)).starving = some 0 ∧
    (((halted true).modCar 0 fun c => { c with queue := [pick .queued (some 0)] }).car 0).state ≠ .idle ∧
    (∀ t ∈ ((shelfWith fun c => { c with queue := [put .queued] }).car 0).queue[0]?, t.starving = none) ∧
    (starved.car 0).limits.starveMode ≠ .off ∧ (starved.car 0).queue.find? (fun t => t.starving.isSome) =
      some (pick .queued (some 0)) ∧ starved.hasWork 0 3 = true ∧ starved.select 0 = some 3 ∧
    ((promised false).car 0).limits.starveMode = .off ∧ (promised false).select 0 = some 3 ∧ shelf.select 0 = none ∧
    (shelf.car 0).geometry.n ≠ 0 ∧ subMod 8 (subMod 8 (shelf.car 0).geometry.a 3) (shelf.car 0).offset ≠ 0 ∧
    subMod 8 (subMod 8 (shelf.car 0).geometry.a 1) (shelf.car 0).offset = 0 := by
  decide +kernel

/-- A discrepancy entry for the slot of a carrier of carousel A. -/
def someEntry (carrier : Nat) : Entry := ⟨⟨0, carrier, 0⟩, .sweep, some (7, 5), 2, 3, false⟩

/-- The last conversion of a count of slot (A, 3, 0), due or not, with a discrepancy list. -/
def measured (due : Bool) (es : List Entry) : State :=
  { (gauging .converting .second).putSlot ⟨0, 3, 0⟩ ⟨some ⟨0, 5⟩, 2, 0, 0, due, false, false, .sound⟩ with entries := es }

/-- `measured` with a PICK of the measured slot QUEUED. -/
def countingFor : State := (measured true []).modCar 0 fun c => { c with queue := [pick .queued none] }

/-- Carousel A with two columns: carrier 3 is presented, both its slots due, and column 0 in its last conversion, for a count or, with
both columns handled, for a verify. -/
def twoColumns (verify : Bool) : State :=
  let due : Slot := ⟨some ⟨0, 5⟩, 2, 0, 0, true, false, false, .sound⟩
  (((shelf.setCar 0 { Carousel.initial.rebuild (geometryOf 8 2 1 [(0, 4), (0, 4)]) with
      state := .presenting, phase := if verify then .verifying else .counting, presented := some 3, known := true
      gauge := ⟨.converting, some ⟨⟨0, 3, 0⟩, if verify then .verify else .count⟩, some 0, .second, none⟩
      unverified := if verify then [0, 1] else [] }).putSlot ⟨0, 3, 0⟩ due).putSlot ⟨0, 3, 1⟩ due).reweigh 0 3

theorem witness_CompletionsEndConversions : (shelf.car 0).gauge.inFlight = .none ∧
    ((gauging .settling .orphaned).car 0).gauge.inFlight = .orphaned ∧
    ((gauging .settling .orphaned).car 0).gauge.state = .settling ∧
    ((shelfWith fun c => { c with gauge := ⟨.idle, none, none, .orphaned, none⟩ }).car 0).gauge.state = .idle ∧
    ((gauging .settling .first).car 0).gauge.inFlight = .first ∧
    ((gauging .converting .second).car 0).gauge.inFlight = .second ∧
    ((gauging .converting .second).car 0).gauge.measure = some ⟨⟨0, 3, 0⟩, .count⟩ ∧
    (∀ b, (measured b []).Sound) ∧ (∀ b, (measured b []).Shaped) ∧ 1023 ≤ 1023 ∧
    ((measured true []).slot ⟨0, 3, 0⟩).due = true ∧ ((measured false []).slot ⟨0, 3, 0⟩).due = false ∧
    ((measured true []).car 0).hasSlot 3 0 = true ∧ (measured true (List.replicate 64 (someEntry 4))).entries.length = 64 ∧
    ((measured true (List.replicate 64 (someEntry 4))).entries.any fun x => x.slot = ⟨0, 3, 0⟩) = false ∧
    ((measured true [someEntry 3]).entries.any fun x => x.slot = ⟨0, 3, 0⟩) = true ∧
    (measured true (List.replicate 63 (someEntry 4))).entries.length = 63 ∧
    ((measured true (List.replicate 63 (someEntry 4))).entries.any fun x => x.slot = ⟨0, 3, 0⟩) = false ∧
    (((measured true []).modCar 0 fun c => { c with gauge := { c.gauge with measure := some ⟨⟨0, 3, 0⟩, .verify⟩ } }).car
      0).gauge.measure = some ⟨⟨0, 3, 0⟩, .verify⟩ := by
  refine ⟨?_, ?_, ?_, ?_, ?_, ?_, ?_, by unfold State.Sound; decide +kernel, fun b k => ?_, ?_⟩
  on_goal 8 => constructor <;> revert b k <;> decide +kernel
  all_goals decide +kernel

/-- For the clauses of CompletionsEndConversions on how the presentation goes on: with a further column to measure, with tasks to
show, with none, and with no handled column left. -/
theorem witness_presentations : (∀ b, (twoColumns b).Sound ∧ (twoColumns b).Shaped) ∧
    ((twoColumns false).car 0).state = .presenting ∧ ((twoColumns false).car 0).presented = some 3 ∧
    ((twoColumns false).car 0).gauge.measure = some ⟨⟨0, 3, 0⟩, .count⟩ ∧
    ((List.range 2).filter fun j => 0 < j && ((twoColumns false).slot ⟨0, 3, j⟩).due) = [1] ∧
    (twoColumns false).permitted 0 3 = true ∧
    ({ twoColumns false with entries := List.replicate 64 (someEntry 4) } : State).permitted 0 3 = false ∧
    ((twoColumns true).car 0).gauge.measure = some ⟨⟨0, 3, 0⟩, .verify⟩ ∧
    (((twoColumns true).car 0).unverified.filter fun j => j ≠ 0) = [1] ∧
    verifying.Sound ∧ verifying.Shaped ∧ ((verifying.car 0).unverified.filter fun j => j ≠ 0) = [] ∧
    countingFor.Sound ∧ countingFor.Shaped ∧ (countingFor.car 0).phase = .counting ∧
    (∀ x ∈ (countingFor.car 0).queue, (countingFor.car x.slot.carousel).hasSlot x.slot.carrier x.slot.column = true ∧
      x.slot.carrier = 3 ∧ x.state = .queued ∧ countingFor.noHandle x.slot = false ∧ x.slot = ⟨0, 3, 0⟩) ∧
    (countingFor.car 0).queue ≠ [] ∧ ((measured true []).car 0).queue = [] := by
  have e : (∀ b, (twoColumns b).Sound ∧ (twoColumns b).Shaped) ∧ countingFor.Sound ∧ countingFor.Shaped := by
    refine ⟨fun b => ⟨by revert b; unfold State.Sound; decide +kernel, fun k => ?_⟩,
      by unfold State.Sound; decide +kernel, fun k => ?_⟩
    · constructor <;> revert b k <;> decide +kernel
    · constructor <;> revert k <;> decide +kernel
  refine ⟨e.1, ?_, ?_, ?_, ?_, ?_, ?_, ?_, ?_, verifying_sound, verifying_shaped, ?_, e.2.1, e.2.2, ?_⟩
  all_goals decide +kernel

/-- R63, R64, R66: after a count the next due column is measured, or the PICK of a slot found to agree is SHOWN; after a verify the
next handled column is measured, and after the last the carousel is IDLE. -/
theorem test_presentation_goes_on :
    let phaseAndMeasure (t : State) : Phase × Option Measurement := ((t.car 0).phase, (t.car 0).gauge.measure)
    after (exec (.conversionComplete 0 256) (twoColumns false)) phaseAndMeasure =
      some (.counting, some ⟨⟨0, 3, 1⟩, .count⟩) ∧
    after (exec (.conversionComplete 0 256) (twoColumns true)) phaseAndMeasure =
      some (.verifying, some ⟨⟨0, 3, 1⟩, .verify⟩) ∧
    after (exec (.conversionComplete 0 256) countingFor) (fun t => ((t.car 0).phase, (t.car 0).queue.map (·.state))) =
      some (.handling, [.shown]) ∧
    after (exec (.conversionComplete 0 256) verifying) (fun t => (t.car 0).phase) = some .none := by decide +kernel

/-- R172: codes that measure two tyres, and three, against a count of two: the slot agrees, is entered, or stays due with the list
full. R174: a verify of three is entered. -/
theorem test_count_results :
    after (exec (.conversionComplete 0 256) (measured true [])) (fun t =>
      (t.entries.length, (t.slot ⟨0, 3, 0⟩).due, (t.slot ⟨0, 3, 0⟩).disputed)) = some (0, false, false) ∧
    after (exec (.conversionComplete 0 384) (measured true [])) (fun t =>
      (t.entries.map (·.measured), (t.slot ⟨0, 3, 0⟩).due, (t.slot ⟨0, 3, 0⟩).disputed)) = some ([3], false, true) ∧
    after (exec (.conversionComplete 0 384) (measured true (List.replicate 64 (someEntry 4)))) (fun t =>
      (t.entries.length, (t.slot ⟨0, 3, 0⟩).due, (t.slot ⟨0, 3, 0⟩).disputed)) = some (64, true, true) := by
  decide +kernel

/-! ## Witnesses: tables, slots and zones -/

/-- The article record of the shelf with another code or maximum age. -/
def art (code maxAge : Nat) : Article := ⟨code, 0, 200, 100, maxAge⟩

/-- The shelf with carrier 3 locked and two PENDING orders of the tyres given, the second first in retry order. -/
def retrying (n m : Nat) : State :=
  ((stocked.modCar 0 fun c => { c with zones := c.zones.set 0 (some ⟨3, 3, .noHandle⟩) }).setOrder 0
    (some ⟨901, 1, 0, .pending, none, [⟨0, n, false, 0, none, []⟩]⟩)).setOrder 1
    (some ⟨902, 2, 1, .pending, none, [⟨0, m, false, 0, none, []⟩]⟩)

/-- Of two PENDING orders the first can be filled once carrier 3 is unlocked. -/
def cleared : State := (retrying 3 2).modCar 0 fun c => { c with zones := c.zones.set 0 none }

/-- What calls for a retry of the PENDING orders (R122): a zone cleared, a maximum age raised, the set spread raised. -/
def retryCalls : List (State → State) :=
  [fun s => s.modCar 0 fun c => { c with zones := c.zones.set 0 none },
    fun s => { s with articles := s.articles.set 0 (some (art 7 53)) },
    fun s => { s with setSpread := 52 }]

/-- What the retry clauses of TablesAreDefined, ZonesAreLockedAndCleared and PoliciesAreSet ask: a memory sound and shaped, of whose
two PENDING orders none can be filled after the call; and, with the zone cleared, one of which the first can, and could not
before. -/
theorem witness_Retried :
    (∀ n, (retrying n 2).Shaped ∧ (retrying n 3).Shaped) ∧ (retrying 3 3).Sound ∧ (retrying 3 2).Sound ∧ cleared.Sound ∧
    cleared.Shaped ∧
    (∀ f ∈ retryCalls, ∀ o r, (f (retrying 3 3)).order? o = some r → r.state = .pending →
      (f (retrying 3 3)).takeLines r.jobs (f (retrying 3 3)).openTrial = none) ∧
    (∀ f ∈ retryCalls, ∃ r picks, (f cleared).order? 1 = some r ∧ r.state = .pending ∧
      (∀ q x, q ≠ 1 → (f cleared).order? q = some x → x.state = .pending → r.Before x) ∧
      (f cleared).takeLines r.jobs (f cleared).openTrial = some picks) ∧
    (retrying 3 2).takeLines [⟨0, 2, false, none⟩] (retrying 3 2).openTrial = none := by
  have none' : ∀ f ∈ retryCalls, ∀ o, ∀ r ∈ (f (retrying 3 3)).order? o,
      (f (retrying 3 3)).takeLines r.jobs (f (retrying 3 3)).openTrial = none := by decide +kernel
  have first : ∀ f ∈ retryCalls, (∀ q, q ≠ 1 → ∀ x ∈ (f cleared).order? q, 2 > x.priority) ∧
      (f cleared).order? 1 = some ⟨902, 2, 1, .pending, none, [⟨0, 2, false, 0, none, []⟩]⟩ ∧
      (f cleared).takeLines [⟨0, 2, false, none⟩] (f cleared).openTrial =
        some [[⟨0, 3, 0⟩, ⟨0, 3, 0⟩]] := by decide +kernel
  have shape : ∀ k : Fin 4, ((retrying 3 3).car k).Shaped := by intro k; constructor <;> revert k <;> decide +kernel
  have shape' : ∀ k : Fin 4, (cleared.car k).Shaped := by intro k; constructor <;> revert k <;> decide +kernel
  exact ⟨fun n => ⟨shape, shape⟩, by unfold State.Sound; decide +kernel, by unfold State.Sound; decide +kernel,
    by unfold State.Sound; decide +kernel, shape',
    fun f h o r e _ => none' f h o r e, fun f h => ⟨_, _, (first f h).2.1, rfl,
      fun q x g e _ => .inl ⟨(first f h).1 q g x e, by decide⟩, (first f h).2.2⟩, by decide +kernel⟩

/-- The shelf with an article in every position. -/
def fullShelf : State := { shelf with articles := Vector.replicate 256 (some (art 7 52)) }

theorem fullShelf_full : fullShelf.articleAt 65535 = none ∧ ∀ p : Fin 256, fullShelf.articles[p.val] ≠ none := by
  constructor
  · unfold State.articleAt
    rw [List.find?_eq_none]
    intro p _
    simp [fullShelf, art]
  · intro p
    simp [fullShelf]

theorem witness_TablesAreDefined : 105 ≤ 105 ∧ 395 ≤ 395 ∧ 8 ≤ 8 ∧ 104 < 105 ∧ 395 < 396 ∧
    (art 0 52).inRanges = false ∧ (art 65535 520).inRanges = true ∧ shelf.articleAt 65535 = none ∧
    Lowest (fun p : Fin 256 => shelf.articles[p.val] = none) 1 ∧ (fullShelf.articleAt 65535 = none ∧ ∀ p : Fin 256, fullShelf.articles[p.val] ≠ none) ∧
    shelf.articleAt 7 = some 0 ∧ shelf.articles[(0 : Fin 256).val] = some (art 7 52) ∧
    ¬((art 7 52).mass = (⟨7, 0, 200, 101, 52⟩ : Article).mass) ∧ shelf.slotHolds 0 = true ∧
    (art 7 52).maxAge ≤ (art 7 52).maxAge ∧ (art 7 52).maxAge < (art 7 53).maxAge ∧
    (State.reset.setArticle 0 (some (art 7 52))).articleAt 7 = some 0 ∧
    (State.reset.setArticle 0 (some (art 7 52))).slotHolds 0 = false ∧
    (State.reset.setArticle 0 (some (art 7 52))).storeNames 0 = false ∧
    (State.reset.setArticle 0 (some (art 7 52))).orderNames 0 = false ∧
    (State.reset.setArticle 0 (some (art 7 52))).entryNames 7 = false := by
  refine ⟨?_, ?_, ?_, ?_, ?_, ?_, ?_, ?_, lowest_of ?_, fullShelf_full, ?_⟩ <;> decide +kernel

/-- The shelf with carousel A OFFLINE. -/
def closed : State := shelfWith fun c => { c with state := .offline, known := false }

theorem witness_LoadSlotWritesTheRecord : (closed.car 0).hasSlot 7 0 = true ∧ closed.Shaped ∧ closed.Sound ∧
    (∀ k : Fin 4, k.val = 0 → (closed.car k).hasSlot 8 0 = false) ∧ closed.capacity ⟨0, 7, 0⟩ < 5 ∧
    closed.articleAt 8 = none ∧ ({ closed with articles := closed.articles.set 1 (some { art 9 52 with cls := 1 }) } :
      State).articleAt 9 = some 1 ∧ ({ art 9 52 with cls := 1 } : Article).cls ≠ closed.slotClass ⟨0, 7, 0⟩ ∧
    closed.articleAt 7 = some 0 ∧ closed.articles[(0 : Fin 256).val] = some (art 7 52) ∧
    (art 7 52).cls = closed.slotClass ⟨0, 7, 0⟩ ∧ 1 ≤ 4 ∧ 4 ≤ closed.capacity ⟨0, 7, 0⟩ ∧
    (closed.car 0).state = .offline ∧ (closed.slot ⟨0, 7, 0⟩).resOut = 0 ∧ (closed.slot ⟨0, 7, 0⟩).resIn = 0 ∧
    (closed.slot ⟨0, 7, 0⟩).disputed = false ∧ (closed.car 0).audit = .none ∧ (shelf.car 0).state ≠ .offline ∧
    ((closed.putSlot ⟨0, 3, 0⟩ ⟨some ⟨0, 5⟩, 2, 1, 0, false, false, false, .sound⟩).slot ⟨0, 3, 0⟩).resOut ≠ 0 := by
  refine ⟨by decide +kernel, ?_, by unfold State.Sound; decide +kernel, ?_⟩
  · intro k; constructor <;> revert k <;> decide +kernel
  · decide +kernel

/-- The shelf with so many zone locks on carousel A. -/
def locked (n : Nat) : State :=
  shelfWith fun c => { c with zones := (Vector.range 4).map fun i => if i < n then some ⟨i, 7, .noStore⟩ else none }

theorem witness_ZonesAreLockedAndCleared : 0 < (shelf.car 0).geometry.n ∧ 7 < (shelf.car 0).geometry.n ∧
    (shelf.car 0).geometry.n ≤ 8 ∧ 2 ≤ 2 ∧ 4 ≤ 4 ∧
    Lowest (fun e : Fin 4 => ((locked 4).car 0).zones[e.val] = some ⟨3, 7, .noStore⟩) 3 ∧
    (∀ e : Fin 4, ((locked 4).car 0).zones[e.val] ≠ some ⟨5, 2, .noHandle⟩) ∧
    (∀ e : Fin 4, ((locked 4).car 0).zones[e.val] ≠ none) ∧
    (∀ e : Fin 4, ((locked 3).car 0).zones[e.val] ≠ some ⟨5, 2, .noHandle⟩) ∧
    Lowest (fun e : Fin 4 => ((locked 3).car 0).zones[e.val] = none) 3 ∧
    ((locked 3).car 0).zones[3] = none ∧ ((locked 3).car 0).zones[0] ≠ none := by
  refine ⟨?_, ?_, ?_, ?_, ?_, lowest_of ?_, ?_, ?_, ?_, lowest_of ?_, ?_⟩ <;> decide +kernel

/-! ## Witnesses: put-away and orders -/

theorem witness_StoresReserveTheirPlaces : target? 4 = some none ∧ target? 0 = some (some 0) ∧ 1 ≤ 1 ∧ 16 ≤ 16 ∧
    65535 ≤ 65535 ∧ 16 < 17 ∧ 65535 < 65536 ∧ shelf.articleAt 8 = none ∧ shelf.articleAt 7 = some 0 ∧
    Lowest (fun p => shelf.store? p = none) 0 ∧ Lowest (fun p => (promised false).store? p = none) 1 ∧
    (∀ p, ({ shelf with stores := Vector.replicate 16 (some (someStore .opened)) } : State).store? p ≠ none) ∧
    shelf.Lawful ∧ (∀ t ∈ (promised false).allTasks, t.id < (promised false).nextTask) ∧
    (promised false).placeSteps ((promised false).storeJob 0 5 none) 2 (promised false).openTrial =
      .all [⟨0, 3, 0⟩, ⟨0, 7, 0⟩] ∧ shelf.workSeqSpent = false ∧ ({ shelf with workSeqSpent := true } : State).workSeqSpent = true ∧
    shelf.Sound ∧
    shelf.Shaped ∧ shelf.placeSteps (shelf.storeJob 0 5 (some 1)) 1 shelf.openTrial = .failed 0 ∧
    shelf.placeSteps (shelf.storeJob 0 5 none) 1 shelf.openTrial = .all [⟨0, 3, 0⟩] ∧ shelf.workSeq < 4294967295 ∧
    (shelf.car 0).hasSlot 7 0 = true ∧ shelf.choosePlace (shelf.storeJob 0 5 none) shelf.openTrial = some ⟨0, 3, 0⟩ ∧
    shelf.choosePlace (shelf.storeJob 0 5 (some 1)) shelf.openTrial = none :=
  ⟨by decide, by decide, by decide, by decide, by decide, by decide, by decide, by decide +kernel, by decide +kernel,
    lowest_of (by decide +kernel), lowest_of (by decide +kernel), by decide +kernel, lawful_of (by decide +kernel),
    by decide +kernel, by decide +kernel, by decide +kernel, rfl, shelf_sound, shelf_shaped, by decide +kernel, by decide +kernel,
    by decide +kernel, by decide +kernel, by decide +kernel, by decide +kernel⟩

/-- R97: each placement of a committed store is a PLACE of its quantity, and its slot takes the article and the week. -/
theorem test_store_commits : after (exec (.store 1 7 5 2 4) (promised false)) (fun t =>
    ((t.allTasks.filter fun x => x.ofStore 1).map fun x => (x.slot.carrier, x.quantity, x.week), (t.slot ⟨0, 7, 0⟩).held)) =
    some ([(3, 1, 5), (7, 1, 5)], some ⟨0, 5⟩) := by decide +kernel

theorem witness_StoreNumbersCountOn : stocked.store? 0 = some (someStore .opened) ∧ 254 < 255 := by decide +kernel

theorem witness_DropStoreGivesUpPlaces : 1 ≤ 1 ∧ 255 ≤ 255 ∧ 255 < 256 ∧ stocked.storeAt 255 = none ∧
    stocked.storeAt 1 = some 0 ∧
    stocked.store? 0 = some (someStore .opened) ∧ (someStore .closing).state = .closing ∧
    (shelf.setStore 0 (some (someStore .closing))).storeAt 1 = some 0 ∧
    (∀ t ∈ stocked.allTasks, t.ofStore 0 = true → t.state = .unreleased ∨ t.state = .queued) ∧ (1 : Fin 16) ≠ 0 ∧
    (∀ b, (promised b).storeAt 1 = some 0 ∧ (promised b).store? 0 = some (someStore .opened) ∧ (promised b).Sound ∧
      (promised b).Shaped ∧ (promised b).Lawful ∧ ((promised b).car 0).hasSlot 3 0 = true) ∧
    (∀ t ∈ (promised false).allTasks, t.ofStore 0 = true → t.state = .queued) ∧
    (∃ t ∈ (promised true).allTasks, t.ofStore 0 = true ∧ t.state = .shown) := by
  have e : ∀ b, (promised b).storeAt 1 = some 0 ∧ (promised b).store? 0 = some (someStore .opened) ∧
      ((promised b).car 0).hasSlot 3 0 = true := by decide +kernel
  refine ⟨?_, ?_, ?_, ?_, ?_, ?_, ?_, ?_, ?_, ?_, fun b => ⟨(e b).1, (e b).2.1, promised_sound b, promised_shaped b,
    promised_lawful b, (e b).2.2⟩, ?_, ?_⟩ <;> decide +kernel

theorem shelf_paired : shelf.Paired := paired_of (by decide +kernel) (by decide +kernel) (by decide +kernel)

/-- A store with its PLACE not yet in a queue. -/
def waitingTask : State := { stocked with waiting := [put .unreleased] }

/-- The shelf with a younger tyre in slot (A, 5, 0). -/
def layered : State := (shelf.putSlot ⟨0, 5, 0⟩ ⟨some ⟨0, 6⟩, 1, 0, 0, false, false, false, .sound⟩).reweigh 0 5

/-- The shelf with every lane FREE but under OVERFLOW, so that none is eligible. -/
def laneless : State := { shelf with lanes := Vector.replicate 8 { Lane.initial with overflow := true, arrived := 1 } }

/-- The shelf with an order of priority 1 ALLOCATED. -/
def queued : State := laned (someOrder .allocated none 0) Lane.initial

/-- A line that is a set, of so many tyres, with dispatched weeks or none. -/
def setLine (quantity : Nat) (span : Option (Nat × Nat)) : LineJob := ⟨0, quantity, true, span⟩

theorem witness_OrdersAreEntered : shelf.orderOk 901 3 [⟨7, 2, 0⟩] = true ∧
    shelf.orderLines [⟨7, 2, 0⟩] = some [⟨0, 2, false, 0, none, []⟩] ∧ shelf.orderAt 901 = none ∧
    Lowest (fun o => shelf.order? o = none) 0 ∧
    (∀ o, ({ shelf with orders := Vector.replicate 32 (some (someOrder .pending none 0)) } : State).order? o ≠ none) ∧
    ({ shelf with orders := Vector.replicate 32 (some (someOrder .pending none 0)) } : State).orderAt 902 = none ∧
    (layered.takeLine ⟨0, 3, false, none⟩ layered.openTrial).map (·.1) = some [⟨0, 3, 0⟩, ⟨0, 3, 0⟩, ⟨0, 5, 0⟩] ∧
    layered.takeLine ⟨0, 4, false, none⟩ layered.openTrial = none ∧
    (layered.takeLine ⟨0, 3, true, none⟩ layered.openTrial).isSome = true ∧ shelf.workSeqSpent = false ∧ shelf.Sound ∧ shelf.Shaped ∧ shelf.Paired ∧
    (shelf.takeLines [⟨0, 2, false, none⟩] shelf.openTrial).isSome = true ∧
    (shelf.takeLines [⟨0, 3, false, none⟩] shelf.openTrial).isSome = false ∧ shelf.workSeq < 4294967295 ∧
    shelf.orderOk 0 3 [⟨7, 2, 0⟩] = false ∧ shelf.articleAt 8 = none ∧ stocked.orderAt 901 ≠ none ∧
    ({ shelf with workSeqSpent := true } : State).workSeqSpent = true ∧
    (shelf.takeLine ⟨0, 2, true, none⟩ shelf.openTrial).isSome = true ∧
    (waitingTask.waiting.filter fun t => t.slot.carousel = 0 && waitingTask.releasable t) = [put .unreleased] ∧
    laneless.Sound ∧ laneless.Paired ∧ (∀ l, (laneless.lane l).state ≠ .free ∨ (laneless.lane l).overflow = true) ∧
    (laneless.takeLines [⟨0, 2, false, none⟩] laneless.openTrial).isSome = true ∧
    Lowest (fun l => (shelf.lane l).state = .free ∧ (shelf.lane l).overflow = false) 0 ∧ queued.Sound ∧ queued.Paired ∧
    (∀ q, ∀ x ∈ queued.order? q, x.state = .allocated → x.priority < 3) ∧ queued.orderAt 902 = none ∧
    (layered.takeLine (setLine 3 none) layered.openTrial).map (·.1) = some [⟨0, 3, 0⟩, ⟨0, 3, 0⟩, ⟨0, 5, 0⟩] ∧
    layered.takeLine (setLine 4 none) layered.openTrial = none ∧
    (layered.takeLine (setLine 1 (some (6, 6))) layered.openTrial).map (·.1) = some [⟨0, 3, 0⟩] ∧
    (({ layered with setSpread := 0 } : State).takeLine (setLine 1 (some (6, 6))) layered.openTrial).map (·.1) =
      some [⟨0, 5, 0⟩] :=
  ⟨by decide +kernel, by decide +kernel, by decide +kernel, lowest_of (by decide +kernel), by decide +kernel, by decide +kernel,
    by decide +kernel, by decide +kernel, by decide +kernel, by decide +kernel, shelf_sound, shelf_shaped, shelf_paired, by decide +kernel, by decide +kernel, by decide +kernel, by decide +kernel, by decide +kernel,
    by decide +kernel, rfl, by decide +kernel, by decide +kernel, by unfold State.Sound; decide +kernel,
    paired_of (by decide +kernel) (by decide +kernel) (by decide +kernel), by decide +kernel, by decide +kernel,
    lowest_of (by decide +kernel), by unfold State.Sound; decide +kernel,
    paired_of (by decide +kernel) (by decide +kernel) (by decide +kernel), by decide +kernel, by decide +kernel, by decide +kernel,
    by decide +kernel, by decide +kernel, by decide +kernel⟩

/-- R117: three tyres of weeks 5 and 6 fill a set line with SET-SPREAD 1 and none with SET-SPREAD 0, whose second window, from week
6, fills a line of one tyre with week 6 dispatched. -/
theorem test_set_windows :
    let narrow : State := { layered with setSpread := 0 }
    (({ layered with setSpread := 1 } : State).takeLine (setLine 3 none) layered.openTrial).isSome = true ∧
    narrow.takeLine (setLine 3 none) narrow.openTrial = none ∧
    narrow.takeLine (setLine 1 (some (5, 6))) narrow.openTrial = none := by decide +kernel

theorem witness_CancelsReleaseOrders : 1 ≤ 1 ∧ 65535 ≤ 65535 ∧ stocked.orderAt 65535 = none ∧ stocked.orderAt 901 = some 0 ∧
    stocked.order? 0 = some (someOrder .pending none 0) ∧ (someOrder .pending none 0).state = .pending ∧
    (laned (someOrder .complete (some 2) 2) (someLane .ready 2 2 2)).orderAt 901 = some 0 ∧
    (someOrder .complete (some 2) 2).state = .complete ∧
    (laned (someOrder .picking (some 2) 0) (someLane .filling 2 0 0)).orderAt 901 = some 0 ∧
    (someOrder .picking (some 2) 0).state = .picking ∧ ((someOrder .picking (some 2) 0).lines.map (·.dispatched)).sum = 0 ∧
    (∀ b, (promised b).orderAt 901 = some 0 ∧ (promised b).order? 0 = some (someOrder .picking (some 2) 0) ∧
      (promised b).Sound ∧ (promised b).Shaped ∧ (promised b).Paired ∧ (promised b).Lawful ∧
      ((promised b).car 0).hasSlot 3 0 = true) ∧
    (∀ t ∈ (promised false).allTasks, t.ofOrder 0 = true → t.state = .queued) ∧
    (∃ t ∈ (promised true).allTasks, t.ofOrder 0 = true ∧ t.state = .shown) ∧
    (∀ q, ∀ x ∈ (promised false).order? q, x.state ≠ .pending ∧ x.state ≠ .allocated) := by
  have e : ∀ b, (promised b).orderAt 901 = some 0 ∧ (promised b).order? 0 = some (someOrder .picking (some 2) 0) ∧
      ((promised b).car 0).hasSlot 3 0 = true := by decide +kernel
  refine ⟨?_, ?_, ?_, ?_, ?_, ?_, ?_, ?_, ?_, ?_, ?_, fun b => ⟨(e b).1, (e b).2.1, promised_sound b, promised_shaped b,
    promised_paired b, promised_lawful b, (e b).2.2⟩, ?_, ?_, ?_⟩ <;> decide +kernel

/-- R101, R125: a DROP-STORE and a CANCEL give back what their queued tasks reserve, and leave shown tasks WITHDRAWN. -/
theorem test_given_up :
    after (exec (.dropStore 1 1) (promised false)) (fun t => ((t.slot ⟨0, 3, 0⟩).resIn, (t.store? 0).isSome)) =
      some (0, false) ∧
    after (exec (.dropStore 1 1) (promised true)) (fun t => ((t.slot ⟨0, 3, 0⟩).resIn, (t.car 0).queue.map (·.state))) =
      some (0, [.shown, .withdrawn]) ∧
    after (exec (.cancel 1 901) (promised false)) (fun t => ((t.slot ⟨0, 3, 0⟩).resOut, (t.lane 2).state)) =
      some (0, .free) ∧
    after (exec (.cancel 1 901) (promised true)) (fun t => ((t.slot ⟨0, 3, 0⟩).resOut, (t.lane 2).orphan)) =
      some (0, true) := by decide +kernel

/-- R101: of two places on struck slots, the QUEUED one is given up in step 1 and the SHOWN one, written before it, in step 2. -/
theorem test_dropped_in_steps :
    after (exec (.dropStore 1 1) ((struck ((promised true).modCar 0 fun c =>
      { c with queue := c.queue ++ [{ put .queued with id := 2, slot := ⟨0, 5, 0⟩ }] }) (.uncorrectable someRaw)).strike
        ⟨⟨0, 5, 0⟩, .uncorrectable someRaw⟩)) (fun t => t.link.notices.map fun x => (x.kind, x.fields.take 3)) =
      some [(.slotSuspect, addrFields ⟨0, 5, 0⟩), (.slotSuspect, addrFields ⟨0, 3, 0⟩)] := by decide +kernel

theorem witness_WeekOnlyMovesOn : 65535 ≤ 65535 ∧ exec (.powerOn true false) shelf = .next (shelf.restart true false) ∧
    exec .resetEffect shelf = .next shelf.resetEffect ∧ exec .gapTimeout shelf = .next shelf ∧ shelf.week ≤ 65535 :=
  ⟨by decide, rfl, rfl, rfl, by decide +kernel⟩

/-- The shelf with a set line whose two picks lie three weeks apart. -/
def spanned : State :=
  { shelf.setOrder 0 (some ⟨901, 1, 0, .allocated, none, [⟨0, 33, true, 0, none, []⟩]⟩) with
    waiting := [{ pick .unreleased none with week := 5 }, { pick .unreleased none with id := 2, week := 8 }] }

theorem witness_PoliciesAreSet : min 52 2 < spanned.spanInUse ∧ spanned.spanInUse ≤ min 52 3 ∧
    min 52 3 ≤ spanned.setSpread ∧ spanned.spanInUse ≤ min 52 60 ∧ spanned.setSpread < min 52 60 ∧
    (∃ r, spanned.order? 0 = some r ∧ max 4 (min 32 40) < (r.lines.map (·.quantity)).sum) ∧
    (∀ o, ∀ r ∈ shelf.order? o, (r.lines.map (·.quantity)).sum ≤ max 4 (min 32 3)) ∧ 2 ≤ 2 := by
  refine ⟨by decide +kernel, by decide +kernel, by decide +kernel, by decide +kernel, by decide +kernel, ⟨_, rfl, ?_⟩, ?_, ?_⟩
  all_goals decide +kernel

/-! ## Witnesses: lanes and audits -/

theorem witness_ArrivalsAreCounted :
    ((laned (someOrder .picking (some 2) 2) (someLane .filling 2 2 0)).lane 2).arrived + 1 < 2 ∧
    ((laned (someOrder .picking (some 2) 1) (someLane .filling 2 1 0)).lane 2).arrived + 1 = 1 ∧
    (someLane .filling 2 1 0).dispatched ≠ (someLane .filling 2 1 0).expected ∧
    (someLane .filling 2 2 1).arrived + 1 = (someLane .filling 2 2 1).dispatched ∧
    (someLane .filling 2 2 1).order = some 0 ∧
    (laned (someOrder .picking (some 2) 2) (someLane .filling 2 2 1)).order? 0 = some (someOrder .picking (some 2) 2) ∧
    (∀ t ∈ (laned (someOrder .picking (some 2) 2) (someLane .filling 2 2 1)).allTasks, t.ofOrder 0 = false) ∧
    (laned (someOrder .picking (some 2) 2) (someLane .filling 2 2 1)).Paired ∧
    (shelf.lane 0).dispatched ≤ (shelf.lane 0).arrived ∧ (shelf.lane 0).state ≠ .filling ∧
    (shelf.lane 0).overflow = false := by
  refine ⟨?_, ?_, ?_, ?_, ?_, ?_, ?_, paired_of ?_ ?_ ?_, ?_, ?_, ?_⟩ <;> decide +kernel

/-- The shelf with lane 2 READY for a COMPLETE order or, FREE, under OVERFLOW, no other lane eligible, and two orders ALLOCATED, the
second of the higher priority. -/
def contended (ready : Bool) : State :=
  let x : State := laneless.setLane 2 (if ready then someLane .ready 2 2 2 else { Lane.initial with overflow := true, arrived := 63 })
  (((if ready then x.setOrder 0 (some (someOrder .complete (some 2) 2)) else x).setOrder 1
    (some { someOrder .allocated none 0 with code := 902, seq := 1 })).setOrder 2
    (some { someOrder .allocated none 0 with code := 903, seq := 2, priority := 3 }))

/-- R135, R136, R144, R145: the lane cleared goes to the ALLOCATED order of the higher priority, and the other waits. -/
theorem test_clear_grants : ∀ ready, after (exec (.clearKey 2) (contended ready)) (fun t =>
    ((t.order? 1).map (·.state), (t.order? 2).map fun r => (r.state, r.lane), t.lane 2)) =
      some (some .allocated, some (.picking, some 2), ⟨.filling, some 2, 2, 0, 0, false, false, false, false, none⟩) := by
  intro ready
  cases ready <;> decide +kernel

theorem witness_LanesAreCleared : (∀ ready, (contended ready).Paired) ∧
    ((contended true).lane 2).state = .ready ∧ ((contended true).lane 2).order = some 0 ∧
    (contended true).order? 0 = some (someOrder .complete (some 2) 2) ∧
    ((contended false).lane 2).state = .free ∧ ((contended false).lane 2).overflow = true ∧
    (∃ r, (contended true).order? 1 = some r ∧ r.state = .allocated) ∧ (queued.lane 0).state = .free ∧
    (queued.lane 0).overflow = false ∧ queued.order? 0 = some (someOrder .allocated none 0) ∧
    (queued.arbitrate.lane 0).order = some 0 ∧
    ((laned (someOrder .complete (some 2) 2) (someLane .ready 2 2 2)).lane 2).state = .ready ∧
    (someLane .ready 2 2 2).order = some 0 ∧
    (laned (someOrder .complete (some 2) 2) (someLane .ready 2 2 2)).order? 0 = some (someOrder .complete (some 2) 2) ∧
    (∀ o, ∀ r ∈ (laned (someOrder .complete (some 2) 2) (someLane .ready 2 2 2)).order? o, r.state ≠ .allocated) ∧
    ({ Lane.initial with overflow := true, arrived := 63 } : Lane).state = .free ∧
    ({ Lane.initial with overflow := true, arrived := 63 } : Lane).overflow = true ∧
    (shelf.lane 0).state = .free ∧ (shelf.lane 0).overflow = false ∧ (shelf.lane 0).order = none := by
  refine ⟨fun b => paired_of ?_ ?_ ?_, ?_, ?_, ?_, ?_, ?_, ⟨_, rfl, ?_⟩, ?_⟩
  all_goals first | (revert b; decide +kernel) | decide +kernel

theorem witness_TransitTimerExpiryMarksLate :
    ((laned (someOrder .picking (some 2) 1) { someLane .filling 2 1 0 with timer := some 30000 }).lane 2).timer = some 30000 ∧
    (shelf.lane 0).timer = none := by decide +kernel

/-- The shelf under a sweep whose cursor is at carrier 1, with so many carriers remaining. -/
def sweeping (remaining : Nat) : State := shelfWith fun c => { c with audit := .sweep ⟨0, 7, 1, remaining, [0]⟩ }

theorem witness_SweepsStartAtTheOpening : (some 0 : Option Nat).isSome ≠ (none : Option Nat).isSome ∧
    (shelf.car 0).geometry.n ≠ 0 ∧ (shelf.car 0).geometry.n ≤ 8 ∧ (State.reset.car 0).geometry.n = 0 ∧
    6 < (shelf.car 0).geometry.n ∧ ((bare .idle .suspect).car 0).audit ≠ .none ∧ (shelf.car 0).audit = .none ∧ shelf.Sound ∧
    shelf.Shaped ∧ 0 < (shelf.car 0).geometry.s ∧ (sweeping 8).Sound ∧ (sweeping 8).Shaped ∧
    ((sweeping 8).car 0).audit = .sweep ⟨0, 7, 1, 8, [0]⟩ ∧ ((sweeping 1).car 0).audit = .sweep ⟨0, 7, 1, 1, [0]⟩ ∧
    ((sweeping 8).car 0).hold = false ∧ ((sweeping 8).slot ⟨0, 1, 0⟩).due = false ∧ 7 < ((sweeping 8).car 0).geometry.n ∧
    ((sweeping 8).slot ⟨0, 0, 0⟩).disputed = false ∧ (shelf.slot ⟨0, 1, 0⟩).disputed = false := by
  refine ⟨?_, ?_, ?_, ?_, ?_, ?_, ?_, shelf_sound, shelf_shaped, ?_, by unfold State.Sound; decide +kernel, fun k => ?_, ?_⟩
  on_goal 9 => constructor <;> revert k <;> decide +kernel
  all_goals decide +kernel

/-- R165, R166: a sweep of carriers 6 to 1 of the shelf, with carrier 1 at the opening, starts there with four carriers to go. -/
theorem test_sweep_opens : after (exec (.auditSweep 1 0 (some 6) (some 1)) shelf) (fun t => ((t.car 0).audit, (t.car 0).found)) =
    some (.sweep ⟨6, 1, 1, 4, [0]⟩, 0) := by decide +kernel

/-- R167: from carrier 1 the sweep goes on to carrier 0, and with one carrier remaining it ends. -/
theorem test_sweep_advances :
    (((sweeping 8).testAudit 0).car 0).audit = .sweep ⟨0, 7, 0, 7, [0]⟩ ∧
    (((sweeping 1).testAudit 0).car 0).audit = .none ∧
    ((sweeping 1).testAudit 0).link.notices.map (·.kind) = [.auditDone] := by decide +kernel

/-- The shelf with an entry for slot (A, 3, 0), which is DISPUTED. -/
def disputing : State :=
  { shelf.putSlot ⟨0, 3, 0⟩ ⟨some ⟨0, 5⟩, 2, 1, 1, false, true, true, .sound⟩ with
    entries := [⟨⟨0, 3, 0⟩, .suspect, some (7, 5), 2, 3, false⟩] }

theorem disputing_sound : disputing.Sound := by unfold State.Sound; decide +kernel

theorem disputing_shaped : disputing.Shaped := by intro k; constructor <;> revert k <;> decide +kernel

/-- The shelf with slot (A, 3, 0) SUSPECT and named by no entry, its carousel STOPPED or not. -/
def suspecting (stopped : Bool) : State :=
  (shelf.putSlot ⟨0, 3, 0⟩ ⟨some ⟨0, 5⟩, 2, 0, 0, false, false, true, .sound⟩).modCar 0 fun c =>
    if stopped then { c with state := .stopped } else c

theorem witness_SuspectAuditsSendForCount : (some 0 : Option Nat).isSome = true ∧ (State.reset.car 0).geometry.n = 0 ∧
    ((bare .idle .suspect).car 0).audit ≠ .none ∧ (shelf.car 0).geometry.n ≠ 0 ∧ (shelf.car 0).audit = .none ∧ shelf.Sound ∧
    shelf.Shaped ∧ (∀ c < 8, ∀ j < 1, (shelf.slot ⟨0, c, j⟩).suspect = false) ∧ (disputing.car 0).audit = .none ∧
    disputing.Sound ∧ disputing.Shaped ∧ (disputing.slot ⟨0, 3, 0⟩).suspect = true ∧ (disputing.slot ⟨0, 3, 0⟩).due = false ∧
    (∃ e ∈ disputing.entries, e.slot = ⟨0, 3, 0⟩) ∧
    (∃ u, exec (.auditSuspect 1 0 none none) (suspecting true) = .next u ∧ (u.car 0).hasSlot 3 0 = true ∧
      (u.slot ⟨0, 3, 0⟩).suspect = true ∧ (u.slot ⟨0, 3, 0⟩).due = true ∧ (u.car 0).audit = .suspect) ∧
    (suspecting true).Sound ∧ (suspecting true).Shaped ∧
    (⟨0, 3, 0⟩ : SlotAddr) ∈ (suspecting false).suspectAddrs 0 := by
  refine ⟨?_, ?_, ?_, ?_, ?_, shelf_sound, shelf_shaped, ?_, ?_, disputing_sound, disputing_shaped, ?_, ?_, ?_,
    ⟨_, rfl, ?_⟩, by unfold State.Sound; decide +kernel, ?_, ?_⟩
  on_goal 12 => intro k; constructor <;> revert k
  all_goals decide +kernel

theorem witness_StoppedAuditsClearTheirMarks : (shelf.car 0).audit = .none ∧ ((bare .idle .suspect).car 0).audit = .suspect ∧
    ((sweeping 8).car 0).audit = .sweep ⟨0, 7, 1, 8, [0]⟩ ∧ (sweeping 8).Sound ∧ (sweeping 8).Shaped ∧
    ((shelfWith fun c => { c with audit := .sweep ⟨0, 7, 1, 8, []⟩ }).car 0).audit = .sweep ⟨0, 7, 1, 8, []⟩ ∧
    (∀ j ∈ [0], ((sweeping 8).car 0).hasSlot 1 j = true) ∧ ((sweeping 8).car 0).hasSlot 3 0 = true ∧
    ((shelfWith fun c => { c with state := .stopped, audit := .sweep ⟨0, 7, 1, 8, [0]⟩ }).car 0).state ≠ .idle ∧
    (((sweeping 8).strike ⟨⟨0, 1, 0⟩, .uncorrectable someRaw⟩).slot ⟨0, 1, 0⟩).damage = .uncorrectable someRaw := by
  refine ⟨?_, ?_, ?_, by unfold State.Sound; decide +kernel, fun k => ?_, ?_⟩
  on_goal 4 => constructor <;> revert k <;> decide +kernel
  all_goals decide +kernel

/-- The shelf with a phantom found in the empty slot (A, 4, 0), and article 9 of another class than the column's. -/
def phantom : State :=
  { shelf with
    entries := [⟨⟨0, 4, 0⟩, .phantom, none, 0, 1, false⟩]
    articles := shelf.articles.set 1 (some { art 9 52 with cls := 1 }) }

theorem witness_ResolutionsEndDisputes_checks :
    16 < (List.replicate 17 (⟨3, 0, 1, 0, 0⟩ : DecisionArg)).length ∧
    ¬(([⟨3, 0, 1, 0, 0⟩, ⟨3, 0, 2, 0, 0⟩] : List DecisionArg).map fun d => (d.carrier, d.column)).Nodup ∧
    (disputing.car 0).hasSlot 8 0 = false ∧ 2 < 3 ∧ 1 ≠ 0 ∧ 7 ≠ 0 ∧
    (∀ d ∈ [(⟨3, 0, 0, 7, 65535⟩ : DecisionArg), ⟨4, 0, 2, 0, 0⟩], (disputing.car 0).hasSlot d.carrier d.column = true ∧
      d.decision ≤ 2 ∧ (d.decision ≠ 0 → d.article = 0) ∧ d.week ≤ 65535) ∧
    disputing.decisions? 0 [⟨3, 0, 0, 0, 0⟩] = some [(⟨0, 3, 0⟩, .accept none)] ∧
    disputing.decisions? 0 [⟨3, 0, 1, 0, 0⟩] = some [(⟨0, 3, 0⟩, .keep)] ∧
    disputing.decisions? 0 [⟨3, 0, 2, 0, 0⟩] = some [(⟨0, 3, 0⟩, .recount)] ∧
    1 ≠ (disputing.car 0).generation ∧ 0 = (disputing.car 0).generation ∧
    disputing.decisions? 0 [⟨4, 0, 1, 0, 0⟩] = some [(⟨0, 4, 0⟩, .keep)] ∧
    disputing.entries.find? (fun e => e.slot = ⟨0, 4, 0⟩) = none ∧
    (∀ d ∈ [((⟨0, 3, 0⟩ : SlotAddr), Decision.accept none), (⟨0, 3, 0⟩, .keep), (⟨0, 3, 0⟩, .recount)],
      disputing.named d.1 = true ∧ disputing.carriesRightly d = true ∧ disputing.articleKnown d = true ∧
        disputing.classFits d = true) ∧
    disputing.Sound ∧ disputing.Shaped ∧
    disputing.entries.find? (fun e => e.slot = ⟨0, 3, 0⟩) = some ⟨⟨0, 3, 0⟩, .suspect, some (7, 5), 2, 3, false⟩ ∧
    (disputing.slot ⟨0, 3, 0⟩).held.isSome = true ∧ (disputing.slot ⟨0, 3, 0⟩).resOut ≤ 3 ∧
    3 + (disputing.slot ⟨0, 3, 0⟩).resIn ≤ disputing.capacity ⟨0, 3, 0⟩ ∧
    ([((⟨0, 3, 0⟩ : SlotAddr), Decision.keep)].map (·.1)).Nodup ∧
    disputing.decisions? 0 [⟨3, 0, 0, 7, 5⟩] = some [(⟨0, 3, 0⟩, .accept (some (7, 5)))] ∧
    phantom.decisions? 0 [⟨4, 0, 0, 8, 5⟩] = some [(⟨0, 4, 0⟩, .accept (some (8, 5)))] ∧
    phantom.decisions? 0 [⟨4, 0, 0, 9, 5⟩] = some [(⟨0, 4, 0⟩, .accept (some (9, 5)))] ∧
    phantom.entries.find? (fun e => e.slot = ⟨0, 4, 0⟩) = some ⟨⟨0, 4, 0⟩, .phantom, none, 0, 1, false⟩ ∧
    (phantom.slot ⟨0, 4, 0⟩).held = none ∧ phantom.articleAt 8 = none ∧ phantom.articleAt 9 = some 1 ∧
    phantom.article? 1 = some { art 9 52 with cls := 1 } ∧ 1 ≠ phantom.slotClass ⟨0, 4, 0⟩ ∧ phantom.Sound := by
  refine ⟨?_, ?_, ?_, ?_, ?_, ?_, ?_, ?_, ?_, ?_, ?_, ?_, ?_, ?_, ?_, disputing_sound, disputing_shaped, ?_, ?_, ?_, ?_, ?_, ?_, ?_, ?_, ?_, ?_, ?_, ?_, ?_,
    ?_, by unfold State.Sound; decide +kernel⟩ <;> decide +kernel

/-- `promised` with an entry for slot (A, 3, 0), of so many tyres measured. -/
def contested (shown : Bool) (m : Nat) : State :=
  { promised shown with entries := [⟨⟨0, 3, 0⟩, .sweep, some (7, 5), 2, m, false⟩] }

/-- Of two tyres promised to an order and one to a store, one tyre measured, or as many as the slot takes. -/
def disputes : List State := [contested false 1, contested true 1, contested false 4, contested true 4]

/-- The shelf with carrier 3 promised to the order given, whose PICK of two tyres is the one task. -/
def ordering (o : Order) (t : Task) : State :=
  let x := { someLane .filling (if o.state = .cancelled then 0 else 2) 0 0 with orphan := o.state = .cancelled }
  let s := ((laned o (match o.lane with | none => Lane.initial | some _ => x)).putSlot ⟨0, 3, 0⟩
    ⟨some ⟨0, 5⟩, 2, 2, 0, false, false, false, .sound⟩).reweigh 0 3
  { s with waiting := [t], nextTask := 1 }

/-- The shelf with carrier 3 promised to a store for carousel B, of so many tyres, some confirmed there, the rest in tasks of one. -/
def storing (quantity confirmed : Nat) : State :=
  let s := ((shelf.setStore 0 (some ⟨1, 0, 0, 5, some 1, quantity, .opened, [⟨⟨0, 3, 0⟩, quantity, confirmed⟩]⟩)).putSlot ⟨0, 3, 0⟩
    ⟨some ⟨0, 5⟩, 2, 0, quantity - confirmed, false, false, false, .sound⟩).reweigh 0 3
  { s with waiting := (List.range (quantity - confirmed)).map fun i => { put .unreleased with id := i }, nextTask := 3 }

/-- Every clause about a whole request: decisions of each kind together, a slot given its article, and an ACCEPT alone of less than
reserved-out and of more than the places leave. -/
theorem witness_ResolutionsEndDisputes :
    { disputing with entries := disputing.entries ++ phantom.entries }.decisions? 0 [⟨3, 0, 1, 0, 0⟩, ⟨4, 0, 0, 7, 5⟩] =
      some [(⟨0, 3, 0⟩, .keep), (⟨0, 4, 0⟩, .accept (some (7, 5)))] ∧
    ([((⟨0, 3, 0⟩ : SlotAddr), Decision.keep), (⟨0, 4, 0⟩, .accept (some (7, 5)))].map (·.1)).Nodup ∧
    { disputing with entries := disputing.entries ++ phantom.entries }.Sound ∧
    { disputing with entries := disputing.entries ++ phantom.entries }.Shaped ∧
    (∀ d ∈ [((⟨0, 3, 0⟩ : SlotAddr), Decision.keep), (⟨0, 4, 0⟩, .accept (some (7, 5)))],
      let s : State := { disputing with entries := disputing.entries ++ phantom.entries }
      s.named d.1 = true ∧ s.carriesRightly d = true ∧ s.articleKnown d = true ∧ s.classFits d = true) ∧
    phantom.articleAt 7 = some 0 ∧ (phantom.slot ⟨0, 4, 0⟩).resOut = 0 ∧ (phantom.slot ⟨0, 4, 0⟩).resIn = 0 ∧
    1 ≤ phantom.capacity ⟨0, 4, 0⟩ ∧
    (∀ s ∈ disputes, s.Sound ∧ s.Shaped ∧ s.Paired ∧ s.Lawful ∧
      s.decisions? 0 [⟨3, 0, 0, 0, 0⟩] = some [(⟨0, 3, 0⟩, .accept none)] ∧
      (s.slot ⟨0, 3, 0⟩).held = some ⟨0, 5⟩ ∧ (s.slot ⟨0, 3, 0⟩).resOut = 2 ∧ (s.slot ⟨0, 3, 0⟩).resIn = 1 ∧
      s.capacity ⟨0, 3, 0⟩ = 4 ∧ (s.picksOn ⟨0, 3, 0⟩).length = 1 ∧ (s.placesOn ⟨0, 3, 0⟩).length = 1) ∧
    disputes.map (·.entries.map (·.measured)) = [[1], [1], [4], [4]] := by
  have shape : ∀ k : Fin 4, (disputing.car k).Shaped := disputing_shaped
  have sound : ∀ s ∈ disputes, s.Sound := by unfold State.Sound; decide +kernel
  have shaped : ∀ s ∈ disputes, s.Shaped := by
    intro s h k
    constructor <;> revert k s <;> decide +kernel
  have paired : ∀ s ∈ disputes, s.Paired := by
    intro s h
    refine paired_of ?_ ?_ ?_ <;> revert s <;> decide +kernel
  have laws : ∀ s ∈ disputes, lawsHold s = true := by decide +kernel
  refine ⟨by decide +kernel, by decide, by unfold State.Sound; decide +kernel, shape, by decide +kernel, by decide +kernel,
    by decide +kernel, by decide +kernel, by decide +kernel,
    fun s h => ⟨sound s h, shaped s h, paired s h, lawful_of (laws s h), ?_⟩, by decide +kernel⟩
  revert s
  decide +kernel

/-- Every clause about a revoked PICK: its order ended with its lane, PICKING with tyres left elsewhere and without, and ALLOCATED. -/
theorem witness_ResolutionsEndDisputes_picks :
    (∀ s ∈ [promised false, ordering (someOrder .cancelled (some 2) 0) (pick .unreleased none),
        ordering (someOrder .allocated none 0) (pick .unreleased none)], s.Sound ∧ s.Shaped ∧ s.Lawful ∧
      (∃ t ∈ s.allTasks, t.state ≠ .withdrawn ∧ t.owner = .pick 0 1) ∧
      ∃ r, s.order? 0 = some r ∧ (r.lines[1 - 1]?).isSome = true) ∧
    (∀ acc ∈ [(⟨⟨0, 3, 0⟩, 2⟩ : Accepting)], ((promised false).giveUpLine (some acc) 0 1).takeLine ⟨0, 2, false, none⟩
      ((promised false).giveUpLine (some acc) 0 1).openTrial ≠ none) ∧
    (((promised false).giveUpLine (some ⟨⟨0, 3, 0⟩, 1⟩) 0 1).takeLine ⟨0, 2, false, none⟩
      ((promised false).giveUpLine (some ⟨⟨0, 3, 0⟩, 1⟩) 0 1).openTrial).isNone = true ∧
    (let s := ordering (someOrder .allocated none 0) (pick .unreleased none)
     let w := s.giveUpLine (some ⟨⟨0, 3, 0⟩, 1⟩) 0 1
     (w.takeLine ⟨0, 2, false, none⟩ w.openTrial).isNone = true) := by
  have sound : ∀ s ∈ [promised false, ordering (someOrder .cancelled (some 2) 0) (pick .unreleased none),
      ordering (someOrder .allocated none 0) (pick .unreleased none)], s.Sound := by unfold State.Sound; decide +kernel
  have laws : ∀ s ∈ [promised false, ordering (someOrder .cancelled (some 2) 0) (pick .unreleased none),
      ordering (someOrder .allocated none 0) (pick .unreleased none)], lawsHold s = true ∧
      (∃ t ∈ s.allTasks, t.state ≠ .withdrawn ∧ t.owner = .pick 0 1) ∧
      ((s.order? 0).any fun r => (r.lines[1 - 1]?).isSome) = true := by decide +kernel
  have shaped : ∀ s ∈ [promised false, ordering (someOrder .cancelled (some 2) 0) (pick .unreleased none),
      ordering (someOrder .allocated none 0) (pick .unreleased none)], s.Shaped := by
    intro s h k
    constructor <;> revert k s <;> decide +kernel
  refine ⟨fun s h => ⟨sound s h, shaped s h, lawful_of (laws s h).1, (laws s h).2.1, ?_⟩, by decide +kernel, by decide +kernel,
    by decide +kernel⟩
  have g := (laws s h).2.2
  rw [Option.any_eq_true] at g
  exact g

/-- Every clause about a revoked PLACE: placed again, and of a store that stays open, is STORED, and has none left. -/
theorem witness_ResolutionsEndDisputes_places :
    (∀ s ∈ [promised false, storing 2 0, storing 2 1, storing 1 0], s.Sound ∧ s.Shaped ∧ s.Lawful ∧
      (∃ t ∈ s.allTasks, t.state ≠ .withdrawn ∧ t.owner = .place 0) ∧ (s.store? 0).isSome = true) ∧
    (let s := promised false
     let w := s.giveUp (some ⟨⟨0, 3, 0⟩, 4⟩) (put .queued)
     w.placeSteps (w.replaceJob 0 { someStore .opened with placements := [] } ⟨0, 3, 0⟩) 1 w.openTrial = .all [⟨0, 7, 0⟩]) ∧
    (∀ q c, (q, c) ∈ [(2, 0), (2, 1), (1, 0)] →
      let s := storing q c
      let w := s.giveUp (some ⟨⟨0, 3, 0⟩, 4⟩) { put .unreleased with id := 0 }
      let r : Store := ⟨1, 0, 0, 5, some 1, q, .opened, []⟩
      w.placeSteps (w.replaceJob 0 r ⟨0, 3, 0⟩) 1 w.openTrial = .failed 0) := by
  have sound : ∀ s ∈ [promised false, storing 2 0, storing 2 1, storing 1 0], s.Sound := by unfold State.Sound; decide +kernel
  have laws : ∀ s ∈ [promised false, storing 2 0, storing 2 1, storing 1 0], lawsHold s = true ∧
      (∃ t ∈ s.allTasks, t.state ≠ .withdrawn ∧ t.owner = .place 0) ∧ (s.store? 0).isSome = true := by decide +kernel
  have shaped : ∀ s ∈ [promised false, storing 2 0, storing 2 1, storing 1 0], s.Shaped := by
    intro s h k
    constructor <;> revert k s <;> decide +kernel
  have failed : ∀ x ∈ [(2, 0), (2, 1), (1, 0)],
      let s := storing x.1 x.2
      let w := s.giveUp (some ⟨⟨0, 3, 0⟩, 4⟩) { put .unreleased with id := 0 }
      let r : Store := ⟨1, 0, 0, 5, some 1, x.1, .opened, []⟩
      w.placeSteps (w.replaceJob 0 r ⟨0, 3, 0⟩) 1 w.openTrial = .failed 0 := by decide +kernel
  exact ⟨fun s h => ⟨sound s h, shaped s h, lawful_of (laws s h).1, (laws s h).2.1, (laws s h).2.2⟩, by decide +kernel,
    fun q c h => failed (q, c) h⟩

/-- R128 to R130, R182: an ACCEPT of one tyre of two promised to a PICKING order ends the order, with
ORDER-SHORT, and its record, of which nothing is dispatched. R104 to R106, R183: an ACCEPT of a
full slot moves a promised place elsewhere. -/
theorem test_accept_revokes :
    after (exec (.resolve 1 0 0 [⟨3, 0, 0, 0, 0⟩]) (contested false 1)) (fun t =>
      ((t.slot ⟨0, 3, 0⟩).count, (t.slot ⟨0, 3, 0⟩).resOut, (t.order? 0).map (·.state), t.link.notices.map (·.kind))) =
      some (1, 0, none, [.orderShort]) ∧
    after (exec (.resolve 1 0 0 [⟨3, 0, 0, 0, 0⟩]) (contested false 4)) (fun t =>
      ((t.slot ⟨0, 3, 0⟩).count, (t.slot ⟨0, 3, 0⟩).resIn, (t.store? 0).map (·.quantity), t.link.notices.map (·.kind))) =
      some (4, 0, some 1, []) := by decide +kernel

/-- R176, R191: the AUDIT-DONE of a sweep carries its range under one mark byte. -/
theorem test_audit_done_range :
    (((sweeping 1).testAudit 0).link.notices.map fun x => x.fields.take 5) =
      [[.u8 0, .u8 0, .mark true, .u8 0, .u8 7]] := by decide +kernel

end Sys2Proof.Machine.Tests
end

section
/-! # Proofs: the side signs of the frame positions (R28) -/

namespace Sys2Proof.Machine

/-! ## The value of `sideSign` at each kind of frame position -/

@[simp] theorem sideSign_zero (n : Nat) : sideSign n 0 = 0 := by
  simp [sideSign]

@[simp] theorem sideSign_half (n : Nat) : sideSign n (n / 2) = 0 := by
  simp [sideSign]

theorem sideSign_front {n p : Nat} (after : 0 < p) (before : p < n / 2) : sideSign n p = 1 :=
  if_pos ⟨after, before⟩

theorem sideSign_back {n p : Nat} (after : n / 2 < p) (before : p < n) : sideSign n p = -1 := by
  have notFront : ¬ (1 ≤ p ∧ p + 1 ≤ n / 2) := by omega
  rw [sideSign, if_neg notFront, if_pos ⟨after, before⟩]

/-! ## Half a turn -/

/-- Half a turn takes the front run to the back run, the back run to the front run, and each turn to the other.
Only here is the parity of the carrier count used: with `n` odd, the turn at `n / 2` would go to position `n - 1`, on the back run. -/
theorem sideSign_halfTurn {n p : Nat} (even : n % 2 = 0) (hp : p < n) :
    sideSign n ((p + n / 2) % n) = -sideSign n p := by
  rcases Nat.lt_or_ge p (n / 2) with low | high
  · rw [Nat.mod_eq_of_lt (show p + n / 2 < n by omega)]
    rcases Nat.eq_zero_or_pos p with rfl | after
    · simp
    · rw [sideSign_front after low, sideSign_back (by omega) (by omega)]
  · have wrapped : (p + n / 2) % n = p - n / 2 := by
      rw [Nat.mod_eq_sub_mod (by omega), Nat.mod_eq_of_lt (by omega)]
      omega
    rw [wrapped]
    rcases Nat.eq_or_lt_of_le high with rfl | after
    · simp
    · rw [sideSign_back after hp, sideSign_front (by omega) (by omega), neg_neg]

/-- Settles O25: the three kinds of position by their equations, and the opposition by half a turn. -/
theorem sideSignsAreOpposite : Obligations.SideSignsAreOpposite := by
  intro n even _ p hp
  refine ⟨fun after before => sideSign_front after (by omega),
    fun after _ => sideSign_back after hp, ?turns, sideSign_halfTurn even hp⟩
  case turns =>
    rintro (rfl | rfl)
    · exact sideSign_zero n
    · exact sideSign_half n

end Sys2Proof.Machine
end

section
/-! # Proofs: the numbers of stores (R92) -/

namespace Sys2Proof.Machine

/-! ## Numbers held -/

theorem State.storeHeld_iff {s : State} {number : Nat} :
    s.storeHeld number = true ↔ ∃ p r, s.store? p = some r ∧ r.number = number := by
  simp [State.storeHeld, State.storeAt, Option.any_eq_true]

/-! ## The count -/

/-- The number that stands `i` steps after the first of the count from the last given (R92). -/
def State.countedNumber (s : State) (i : Nat) : Nat := (s.lastStore + i) % 255 + 1

/-- The count comes round only after 255 steps, so within 17 it names no number twice. -/
theorem State.countedNumber_inj {s : State} {i j : Nat} (hi : i < 17) (hj : j < 17)
    (same : s.countedNumber i = s.countedNumber j) : i = j := by
  simp only [State.countedNumber] at same
  omega

/-- The 16 positions hold at most 16 of the 17 numbers counted. -/
theorem State.exists_countedNumber_free (s : State) : ∃ i, i < 17 ∧ s.storeHeld (s.countedNumber i) = false := by
  by_contra! full
  have held (i : Fin 17) : ∃ p r, s.store? p = some r ∧ r.number = s.countedNumber i :=
    State.storeHeld_iff.mp (by simpa using full i i.isLt)
  choose position record stored numbered using held
  obtain ⟨i, j, differ, shared⟩ := Fintype.exists_ne_map_eq_of_card_lt position (by simp)
  have sameRecord : record i = record j := Option.some_inj.mp ((stored i).symm.trans (shared ▸ stored j))
  have sameNumber : s.countedNumber i = s.countedNumber j := by rw [← numbered i, ← numbered j, sameRecord]
  exact differ (Fin.ext (State.countedNumber_inj i.isLt j.isLt sameNumber))

/-- The next store's number is the first of the count that is free. -/
theorem State.nextStore_spec (s : State) : ∃ i, i < 17 ∧ s.nextStore = s.countedNumber i ∧
    s.storeHeld s.nextStore = false ∧ ∀ j, j < i → s.storeHeld (s.countedNumber j) = true := by
  have next : s.nextStore =
      (((List.range 17).find? fun i => !s.storeHeld (s.countedNumber i)).map s.countedNumber).getD 0 := by
    rw [State.nextStore, List.find?_map]
    rfl
  cases found : (List.range 17).find? fun i => !s.storeHeld (s.countedNumber i) with
  | none =>
    obtain ⟨i, hi, free⟩ := s.exists_countedNumber_free
    have taken := List.find?_eq_none.mp found i (List.mem_range.mpr hi)
    simp [free] at taken
  | some i =>
    obtain ⟨free, hi, before⟩ := List.find?_range_eq_some.mp found
    have first : s.nextStore = s.countedNumber i := by rw [next, found]; rfl
    exact ⟨i, List.mem_range.mp hi, first, by simpa [first] using free, fun j hj => by simpa using before j hj⟩

/-! ## The last number given -/

/-- The number is written before the places, and `commitPlaces` keeps it. -/
theorem State.commitStore_lastStore (p : Fin 16) (r : Store) (es : List (SlotAddr × Nat)) (s : State) :
    (s.commitStore p r es).lastStore = r.number :=
  (State.kept_commitPlaces p _ es _).lastStore

/-- The number is cleared with the tables, and of what follows only the arming marks are more than an update of other
fields: `evalMarks` keeps it. -/
theorem State.resetEffect_lastStore (s : State) : s.resetEffect.lastStore = 0 :=
  (State.kept_evalMarks _ s).lastStore

/-- Settles O48: the count by the pigeonhole over the 16 positions, the last number given by what the commit and the
resets keep. -/
theorem storeNumbersCountOn : Obligations.StoreNumbersCountOn := by
  refine ⟨fun s => ?count, fun n hn => by rw [Nat.mod_eq_of_lt hn], rfl, State.commitStore_lastStore, rfl,
    fun _ _ _ => rfl, State.resetEffect_lastStore⟩
  case count =>
    obtain ⟨i, hi, next, free, before⟩ := s.nextStore_spec
    refine ⟨i, hi, next, fun p r stored same => ?_, fun j hj => State.storeHeld_iff.mp (before j hj)⟩
    have held : s.storeHeld s.nextStore = true := State.storeHeld_iff.mpr ⟨p, r, stored, same⟩
    simp [free] at held

end Sys2Proof.Machine
end

section
/-! # Proofs: the current week (R110) -/

namespace Sys2Proof.Machine

/-! ## The week a command answers with -/

/-- The command answers a next state whose week is the one given. -/
def KeepsWeek (w : Nat) (x : Out) : Prop := ∃ t, x = .next t ∧ t.week = w

/-- The command answers a next state whose week is none earlier than the one given, and fits its field where that one does. -/
def MovesWeekOn (w : Nat) (x : Out) : Prop := ∃ t, x = .next t ∧ w ≤ t.week ∧ t.week ≤ max w 65535

@[simp] theorem keepsWeek_next {w : Nat} {t : State} : KeepsWeek w (.next t) ↔ t.week = w := by
  simp [KeepsWeek]

theorem KeepsWeek.movesOn {w : Nat} {x : Out} (h : KeepsWeek w x) : MovesWeekOn w x := by
  obtain ⟨t, rfl, rfl⟩ := h
  exact ⟨t, rfl, le_rfl, le_max_left _ _⟩

theorem movesWeekOn_next_of_kept {w : Nat} {t : State} (h : t.week = w) : MovesWeekOn w (.next t) :=
  (keepsWeek_next.mpr h).movesOn

/-! ## The week under the operations of a command -/

section
variable (s : State)

@[simp] theorem State.close_week (retry : Bool) (before : State) : (s.close retry before).week = s.week :=
  (State.kept_close s retry before).week

@[simp] theorem State.touch_week (a : SlotAddr) : (s.touch a).week = s.week := (State.kept_touch a s).week

@[simp] theorem State.touchAll_week (as : List SlotAddr) : (s.touchAll as).week = s.week :=
  (State.kept_touchAll as s).week

@[simp] theorem State.scan_week : s.scan.week = s.week := (State.kept_scan s).week

@[simp] theorem State.putSlot_week (a : SlotAddr) (r : Slot) : (s.putSlot a r).week = s.week :=
  (State.kept_putSlot a r s).week

@[simp] theorem State.unmark_week (a : SlotAddr) : (s.unmark a).week = s.week := (State.kept_unmark a s).week

@[simp] theorem State.rebalance_week (k : Fin 4) (i : Nat) : (s.rebalance k i).week = s.week :=
  (State.kept_rebalance k i s).week

@[simp] theorem State.putCreep_week (k : Fin 4) (on : Bool) : (s.putCreep k on).week = s.week :=
  (State.kept_putCreep k on s).week

@[simp] theorem State.startHoming_week (k : Fin 4) : (s.startHoming k).week = s.week := (State.kept_startHoming k s).week

@[simp] theorem State.enterIdle_week (k : Fin 4) : (s.enterIdle k).week = s.week := (State.kept_enterIdle k s).week

@[simp] theorem State.enterFault_week (k : Fin 4) (cause : FaultCause) : (s.enterFault k cause).week = s.week :=
  (State.kept_enterFault k cause s).week

@[simp] theorem State.confirmDone_week (k : Fin 4) : (s.confirmDone k).week = s.week := (State.kept_confirmDone k s).week

@[simp] theorem State.confirmFault_week (k : Fin 4) : (s.confirmFault k).week = s.week :=
  (State.kept_confirmFault k s).week

@[simp] theorem State.pulseHoming_week (k : Fin 4) : (s.pulseHoming k).week = s.week := (State.kept_pulseHoming k s).week

@[simp] theorem State.pulseMoving_week (k : Fin 4) : (s.pulseMoving k).week = s.week := (State.kept_pulseMoving k s).week

@[simp] theorem State.pulseIdle_week (k : Fin 4) : (s.pulseIdle k).week = s.week := (State.kept_pulseIdle k s).week

@[simp] theorem State.endHoming_week (k : Fin 4) : (s.endHoming k).week = s.week := (State.kept_endHoming k s).week

@[simp] theorem State.correctHome_week (k : Fin 4) : (s.correctHome k).week = s.week := (State.kept_correctHome k s).week

@[simp] theorem State.homeMoving_week (k : Fin 4) : (s.homeMoving k).week = s.week := (State.kept_homeMoving k s).week

@[simp] theorem State.expireHold_week (k : Fin 4) (t : Task) : (s.expireHold k t).week = s.week :=
  (State.kept_expireHold k t s).week

@[simp] theorem State.complete_week (k : Fin 4) (code : Nat) : (s.complete k code).week = s.week :=
  (State.kept_complete k code s).week

@[simp] theorem State.dropStore_week (p : Fin 16) (r : Store) : (s.dropStore p r).week = s.week :=
  (State.kept_dropStore p r s).week

@[simp] theorem State.attempt_week (o : Fin 32) : (s.attempt o).week = s.week := (State.kept_attempt o s).week

@[simp] theorem State.cancelWaiting_week (o : Fin 32) : (s.cancelWaiting o).week = s.week :=
  (State.kept_cancelWaiting o s).week

@[simp] theorem State.cancelHeld_week (o : Fin 32) (r : Order) : (s.cancelHeld o r).week = s.week :=
  (State.kept_cancelHeld o r s).week

@[simp] theorem State.clearLane_week (l : Fin 8) : (s.clearLane l).week = s.week := (State.kept_clearLane l s).week

@[simp] theorem State.raiseOverflow_week (l : Fin 8) : (s.raiseOverflow l).week = s.week :=
  State.raise_week _ _ _

@[simp] theorem State.raiseLate_week (l : Fin 8) : (s.raiseLate l).week = s.week :=
  State.raise_week _ _ _

@[simp] theorem State.openSweep_week (k : Fin 4) (r : Nat × Nat) : (s.openSweep k r).week = s.week :=
  (State.kept_openSweep k r s).week

@[simp] theorem State.openSuspect_week (k : Fin 4) : (s.openSuspect k).week = s.week := (State.kept_openSuspect k s).week

@[simp] theorem State.stopAudit_week (k : Fin 4) : (s.stopAudit k).week = s.week := (State.kept_stopAudit k s).week

@[simp] theorem State.advance_week (dt : Nat) : (s.advance dt).week = s.week := rfl

@[simp] theorem State.discardFrame_week : s.discardFrame.week = s.week := rfl

@[simp] theorem State.receiving_week (r : Receiver) : (s.receiving r).week = s.week := rfl

@[simp] theorem State.refuseFrame_week (kind tag : Nat) : (s.refuseFrame kind tag).week = s.week := rfl

@[simp] theorem State.takeSeq_week : s.takeSeq.week = s.week := by
  unfold State.takeSeq
  split <;> rfl

@[simp] theorem State.commitPlaces_week (p : Fin 16) (x : Held) (es : List (SlotAddr × Nat)) :
    (s.commitPlaces p x es).week = s.week :=
  (State.kept_commitPlaces p x es s).week

@[simp] theorem State.commitStore_week (p : Fin 16) (r : Store) (es : List (SlotAddr × Nat)) :
    (s.commitStore p r es).week = s.week := by
  simp [State.commitStore]

@[simp] theorem State.enterOrder_week (o : Fin 32) (code priority : Nat) (lines : List Line) :
    (s.enterOrder o code priority lines).week = s.week := by
  simp [State.enterOrder]

/-- Limits given, unlike limits staged before, need not be kept ones: the marks and the creep decision that follow are. -/
@[simp] theorem State.applyLimits_week (k : Fin 4) (l : Limits) : (s.applyLimits k l).week = s.week := by
  let given := s.modCar k fun c => { c with limits := l, staged := none }
  have kept : given.Kept (s.applyLimits k l) :=
    (((State.kept_evalMark k given).trans (State.kept_decideCreep k _)).trans (State.kept_review k _)).trans
      (State.kept_expireHolds k _)
  exact kept.week

@[simp] theorem State.takeLimits_week (k : Fin 4) (l : Limits) : (s.takeLimits k l).week = s.week := by
  unfold State.takeLimits
  split <;> simp

theorem State.forEach_week {α : Type} {f : α → State → State} (h : ∀ (x : α) (t : State), (f x t).week = t.week)
    (xs : List α) : (s.forEach xs f).week = s.week := by
  induction xs generalizing s with
  | nil => rfl
  | cons x xs ih => exact (ih (f x s)).trans (h x s)

@[simp] theorem State.evalMarks_week (before : State) : (s.evalMarks before).week = s.week :=
  (State.kept_evalMarks s before).week

/-- A RESET request keeps the week (R110): of the tables it clears none is the week, and the reads before and the marks after
keep it. -/
@[simp] theorem State.resetEffect_week : s.resetEffect.week = s.week := by
  have ended (t : State) : (t.forEach allCarousels fun k u => u.endEarly k .reset).week = t.week :=
    t.forEach_week (fun k u => (State.kept_endEarly k .reset u).week) _
  simp [State.resetEffect, State.clearTables, ended]

end

/-! ## Requests over the tables and slots keep the week -/

theorem keepsWeek_execDefineClass (tag cls width : Nat) (s : State) :
    KeepsWeek s.week (execDefineClass tag cls width s) := by
  unfold execDefineClass
  split
  · split <;> simp
  · simp

@[simp] theorem State.redefine_week (tag : Nat) (p : Fin 256) (old new : Article) (s : State) :
    (s.redefine tag p old new).week = s.week := by
  unfold State.redefine
  split <;> simp [State.replyArticle]

theorem keepsWeek_execDefineArticle (tag code cls width mass maxAge : Nat) (s : State) :
    KeepsWeek s.week (execDefineArticle tag code cls width mass maxAge s) := by
  unfold execDefineArticle
  dsimp only
  split
  · simp
  · split
    · split <;> simp
    · split <;> simp [State.replyArticle]

theorem keepsWeek_execDropArticle (tag code : Nat) (s : State) : KeepsWeek s.week (execDropArticle tag code s) := by
  unfold execDropArticle
  split
  · simp
  · split <;> simp

@[simp] theorem State.load_week (tag : Nat) (a : SlotAddr) (held : Option Held) (count : Nat) (s : State) :
    (s.load tag a held count).week = s.week := by
  unfold State.load
  split
  · simp
  · split <;> simp

theorem keepsWeek_execLoadSlot (tag carousel carrier column article week count : Nat) (s : State) :
    KeepsWeek s.week (execLoadSlot tag carousel carrier column article week count s) := by
  unfold execLoadSlot
  split
  · simp
  · split
    · simp
    · split
      · simp
      · split
        · simp
        · split <;> simp

theorem keepsWeek_execReadSlot (tag carousel carrier column : Nat) (s : State) :
    KeepsWeek s.week (execReadSlot tag carousel carrier column s) := by
  unfold execReadSlot
  split <;> simp

@[simp] theorem State.readStock_week (tag : Nat) (p : Fin 256) (start : Option SlotAddr) (s : State) :
    (s.readStock tag p start).week = s.week := by
  simp [State.readStock]

theorem keepsWeek_execReadStock (tag code : Nat) (start : Option (Nat × Nat × Nat)) (s : State) :
    KeepsWeek s.week (execReadStock tag code start s) := by
  unfold execReadStock
  split
  · simp
  · split
    · simp
    · split <;> simp

@[simp] theorem State.lock_week (tag : Nat) (k : Fin 4) (z : Zone) (s : State) : (s.lock tag k z).week = s.week := by
  unfold State.lock
  split
  · simp
  · split <;> simp

theorem keepsWeek_execLockZone (tag carousel first last kind : Nat) (s : State) :
    KeepsWeek s.week (execLockZone tag carousel first last kind s) := by
  unfold execLockZone
  split
  · split <;> simp
  · simp

theorem keepsWeek_execClearZone (tag carousel entry : Nat) (s : State) :
    KeepsWeek s.week (execClearZone tag carousel entry s) := by
  unfold execClearZone
  split
  · simp
  · split
    · split <;> simp
    · simp

/-! ## Requests to the drives, queues and Gauge Units keep the week -/

@[simp] theorem State.setGeometry_week (tag : Nat) (k : Fin 4) (g : Geometry) (s : State) :
    (s.setGeometry tag k g).week = s.week := by
  unfold State.setGeometry
  split
  · simp
  · split <;> simp

theorem keepsWeek_execSetCarousel (tag carousel n sc a : Nat) (columns : List (Nat × Nat)) (s : State) :
    KeepsWeek s.week (execSetCarousel tag carousel n sc a columns s) := by
  unfold execSetCarousel
  split
  · simp
  · split <;> simp

theorem keepsWeek_execSetLimits (tag carousel : Nat) (x : LimitArgs) (s : State) :
    KeepsWeek s.week (execSetLimits tag carousel x s) := by
  unfold execSetLimits
  split <;> simp

theorem keepsWeek_execHome (tag carousel : Nat) (s : State) : KeepsWeek s.week (execHome tag carousel s) := by
  unfold execHome
  split
  · simp
  · split <;> simp

theorem keepsWeek_execClose (tag carousel : Nat) (s : State) : KeepsWeek s.week (execClose tag carousel s) := by
  unfold execClose
  split
  · simp
  · split <;> simp

@[simp] theorem State.resume_week (tag : Nat) (k : Fin 4) (s : State) : (s.resume tag k).week = s.week := by
  unfold State.resume
  dsimp only
  split
  · simp
  · split <;> simp

theorem keepsWeek_execResume (tag carousel : Nat) (s : State) : KeepsWeek s.week (execResume tag carousel s) := by
  unfold execResume
  split <;> simp

theorem State.confirm_week (tag carousel : Nat) {act : Fin 4 → State → State} (s : State)
    (h : ∀ k, (act k s).week = s.week) : (s.confirm tag carousel act).week = s.week := by
  unfold State.confirm
  split
  · simp
  · split <;> simp [h]

theorem keepsWeek_execConfirmDone (tag carousel : Nat) (s : State) :
    KeepsWeek s.week (execConfirmDone tag carousel s) :=
  keepsWeek_next.mpr (s.confirm_week tag carousel s.confirmDone_week)

theorem keepsWeek_execConfirmFault (tag carousel : Nat) (s : State) :
    KeepsWeek s.week (execConfirmFault tag carousel s) :=
  keepsWeek_next.mpr (s.confirm_week tag carousel s.confirmFault_week)

theorem keepsWeek_execReadQueue (tag carousel firstItem : Nat) (s : State) :
    KeepsWeek s.week (execReadQueue tag carousel firstItem s) := by
  unfold execReadQueue
  split <;> simp

theorem keepsWeek_execReadBalance (tag carousel part : Nat) (s : State) :
    KeepsWeek s.week (execReadBalance tag carousel part s) := by
  unfold execReadBalance
  split <;> simp

theorem keepsWeek_execReadGauge (tag carousel : Nat) (s : State) :
    KeepsWeek s.week (execReadGauge tag carousel s) := by
  unfold execReadGauge
  split <;> simp

/-! ## Requests over stores, orders and lanes keep the week -/

@[simp] theorem State.placeStore_week (tag : Nat) (p : Fin 16) (x : Fin 256) (week quantity : Nat)
    (target : Option (Fin 4)) (s : State) : (s.placeStore tag p x week quantity target).week = s.week := by
  unfold State.placeStore
  dsimp only
  split <;> simp

theorem keepsWeek_execStore (tag code week quantity target : Nat) (s : State) :
    KeepsWeek s.week (execStore tag code week quantity target s) := by
  unfold execStore
  split
  · simp
  · split
    · simp
    · split
      · simp
      · simp
      · split <;> simp

theorem keepsWeek_execDropStore (tag number : Nat) (s : State) : KeepsWeek s.week (execDropStore tag number s) := by
  unfold execDropStore
  split
  · simp
  · split
    · simp
    · split
      · simp
      · split <;> simp

theorem keepsWeek_execReadStore (tag : Nat) (number : Option Nat) (firstItem : Nat) (s : State) :
    KeepsWeek s.week (execReadStore tag number firstItem s) := by
  unfold execReadStore
  split
  · simp
  · split
    · simp
    · split
      · simp
      · split <;> simp

theorem keepsWeek_execOrder (tag code priority : Nat) (lines : List LineArg) (s : State) :
    KeepsWeek s.week (execOrder tag code priority lines s) := by
  unfold execOrder
  split
  · simp
  · split
    · simp
    · split
      · simp
      · split
        · simp
        · split <;> simp

@[simp] theorem State.cancelOrder_week (tag : Nat) (o : Fin 32) (r : Order) (s : State) :
    (s.cancelOrder tag o r).week = s.week := by
  unfold State.cancelOrder
  dsimp only
  split <;> simp

theorem keepsWeek_execCancel (tag code : Nat) (s : State) : KeepsWeek s.week (execCancel tag code s) := by
  unfold execCancel
  split
  · simp
  · split
    · simp
    · split <;> simp

theorem keepsWeek_execReadOrder (tag : Nat) (code : Option Nat) (firstItem : Nat) (s : State) :
    KeepsWeek s.week (execReadOrder tag code firstItem s) := by
  unfold execReadOrder
  split
  · simp
  · split
    · simp
    · split
      · simp
      · split <;> simp

theorem keepsWeek_execSetPolicySetSpread (tag value : Nat) (s : State) :
    KeepsWeek s.week (execSetPolicySetSpread tag value s) := by
  unfold execSetPolicySetSpread
  dsimp only
  split <;> simp

theorem keepsWeek_execSetPolicyCancelMode (tag value : Nat) (s : State) :
    KeepsWeek s.week (execSetPolicyCancelMode tag value s) := by
  unfold execSetPolicyCancelMode
  split <;> simp

theorem keepsWeek_execSetPolicyLaneCap (tag value : Nat) (s : State) :
    KeepsWeek s.week (execSetPolicyLaneCap tag value s) := by
  unfold execSetPolicyLaneCap
  dsimp only
  split <;> simp

theorem keepsWeek_execClearLane (tag lane : Nat) (s : State) : KeepsWeek s.week (execClearLane tag lane s) := by
  unfold execClearLane
  split
  · simp
  · dsimp only
    split <;> simp

/-! ## Requests over audits, and STATUS, keep the week -/

theorem keepsWeek_execAuditSweep (tag carousel : Nat) (first last : Option Nat) (s : State) :
    KeepsWeek s.week (execAuditSweep tag carousel first last s) := by
  unfold execAuditSweep
  split
  · simp
  · dsimp only
    split
    · simp
    · split
      · simp
      · split <;> simp

theorem keepsWeek_execAuditSuspect (tag carousel : Nat) (first last : Option Nat) (s : State) :
    KeepsWeek s.week (execAuditSuspect tag carousel first last s) := by
  unfold execAuditSuspect
  split
  · simp
  · split
    · simp
    · split <;> simp

theorem keepsWeek_execStopAudit (tag carousel : Nat) (s : State) : KeepsWeek s.week (execStopAudit tag carousel s) := by
  unfold execStopAudit
  split
  · simp
  · split <;> simp

theorem keepsWeek_execReadReport (tag carousel firstItem : Nat) (s : State) :
    KeepsWeek s.week (execReadReport tag carousel firstItem s) := by
  unfold execReadReport
  split <;> simp

/-- The close of a resolution is kept step by step: the lanes judged, the retry and the arbiter where they are due. -/
@[simp] theorem State.closeTallied_week (tag : Nat) (k : Fin 4) (before : State) (x : Tallied) :
    (State.closeTallied tag k before x).week = x.state.week := by
  let judged := x.state.judgeLanes before
  let retried := if x.cleared || 0 < x.picks then judged.retryPending else judged
  have retry : judged.Kept retried := .ite (State.kept_retryPending judged) (.refl judged)
  have arbiter : retried.Kept (if before.arbiterDue retried then retried.arbitrate else retried) :=
    .ite (State.kept_arbitrate retried) (.refl retried)
  exact ((((State.kept_judgeLanes x.state before).trans retry).trans arbiter).trans (State.kept_closeResolve _ before)).week

@[simp] theorem State.resolve_week (tag : Nat) (k : Fin 4) (generation : Nat) (ds : List (SlotAddr × Decision))
    (s : State) : (s.resolve tag k generation ds).week = s.week := by
  have applied (t : State) : (ds.foldl Tallied.apply ⟨t, 0, 0, 0, false⟩).state.week = t.week :=
    (Tallied.kept_foldl ds ⟨t, 0, 0, 0, false⟩).week
  have read (t before : State) : (State.resolveRead tag k ds t before).week = t.week := by
    unfold State.resolveRead
    split
    · simp
    · split
      · simp
      · split <;> simp [applied]
  unfold State.resolve
  split
  · simp
  · split <;> simp [read]

theorem keepsWeek_execResolve (tag carousel generation : Nat) (ds : List DecisionArg) (s : State) :
    KeepsWeek s.week (execResolve tag carousel generation ds s) := by
  unfold execResolve
  split
  · simp
  · split
    · simp
    · split <;> simp

theorem keepsWeek_execStatus (tag : Nat) (s : State) : KeepsWeek s.week (execStatus tag s) := by
  simp [execStatus]

/-! ## Edges, keys and timers keep the week -/

theorem keepsWeek_execPulse (k : Fin 4) (s : State) : KeepsWeek s.week (execPulse k s) := by
  unfold execPulse
  split <;> simp

theorem keepsWeek_execHomeEdge (k : Fin 4) (s : State) : KeepsWeek s.week (execHomeEdge k s) := by
  unfold execHomeEdge
  dsimp only
  split
  case h_1 | h_2 | h_3 => simp
  case h_4 | h_5 | h_6 | h_7 => split <;> simp

theorem keepsWeek_execDoneKey (k : Fin 4) (s : State) : KeepsWeek s.week (execDoneKey k s) := by
  unfold execDoneKey
  split <;> simp

theorem keepsWeek_execFaultKey (k : Fin 4) (s : State) : KeepsWeek s.week (execFaultKey k s) := by
  unfold execFaultKey
  split <;> simp

theorem keepsWeek_execEstopAssert (s : State) : KeepsWeek s.week (execEstopAssert s) := by
  have stopped (t : State) : (t.forEach allCarousels State.stopCarousel).week = t.week :=
    t.forEach_week (fun k u => (State.kept_stopCarousel k u).week) _
  simp [execEstopAssert, stopped]

theorem keepsWeek_execArrive (l : Fin 8) (s : State) : KeepsWeek s.week (execArrive l s) := by
  unfold execArrive
  dsimp only
  split <;> simp

theorem keepsWeek_execClearKey (l : Fin 8) (s : State) : KeepsWeek s.week (execClearKey l s) := by
  unfold execClearKey
  split <;> simp

theorem keepsWeek_execPulseTimerExpiry (k : Fin 4) (s : State) : KeepsWeek s.week (execPulseTimerExpiry k s) := by
  unfold execPulseTimerExpiry
  split <;> simp

theorem keepsWeek_execHoldTimerExpiry (k : Fin 4) (place : Nat) (s : State) :
    KeepsWeek s.week (execHoldTimerExpiry k place s) := by
  unfold execHoldTimerExpiry
  split
  · simp
  · split <;> simp

theorem keepsWeek_execTransitTimerExpiry (l : Fin 8) (s : State) : KeepsWeek s.week (execTransitTimerExpiry l s) := by
  unfold execTransitTimerExpiry
  split <;> simp

theorem keepsWeek_execConversionComplete (k : Fin 4) (code : Nat) (s : State) :
    KeepsWeek s.week (execConversionComplete k code s) := by
  simp [execConversionComplete]

theorem keepsWeek_execGapTimeout (s : State) : KeepsWeek s.week (execGapTimeout s) := by
  unfold execGapTimeout
  split <;> simp

theorem keepsWeek_execTransmitFrame (s : State) : KeepsWeek s.week (execTransmitFrame s) := by
  unfold execTransmitFrame
  split <;> simp

/-! ## SET-WEEK -/

theorem execSetWeek_of_le {week : Nat} (fits : week ≤ 65535) (tag : Nat) (s : State) :
    execSetWeek tag week s = .next ({ s with week := max s.week week }.reply kindSetWeek tag .accepted
      [.u16 (max s.week week), .mark (week < max s.week week)]) := by
  simp [execSetWeek, fitsHalf, fits]

/-- SET-WEEK answers with the later week, or keeps the one held against a value that does not fit its field. -/
theorem movesWeekOn_execSetWeek (tag week : Nat) (s : State) : MovesWeekOn s.week (execSetWeek tag week s) := by
  rcases Nat.lt_or_ge 65535 week with large | fits
  · have refused : execSetWeek tag week s = .next (s.reply kindSetWeek tag .badValue []) := by
      simp [execSetWeek, fitsHalf, large]
    exact ⟨_, refused, le_rfl, le_max_left _ _⟩
  · exact ⟨_, execSetWeek_of_le fits tag s, le_max_left _ _, max_le_max_left _ fits⟩

/-! ## Requests, whether commands of their own or dispatched -/

/-- SET-WEEK alone of the requests may change the week. -/
theorem keepsWeek_runRequest {i : Instr} (other : ∀ tag week, i ≠ .setWeek tag week) (s : State) :
    KeepsWeek s.week (runRequest i s) := by
  cases i with
  | setWeek tag week => exact absurd rfl (other tag week)
  | status => exact keepsWeek_execStatus ..
  | setCarousel => exact keepsWeek_execSetCarousel ..
  | setLimits => exact keepsWeek_execSetLimits ..
  | lockZone => exact keepsWeek_execLockZone ..
  | clearZone => exact keepsWeek_execClearZone ..
  | home => exact keepsWeek_execHome ..
  | close => exact keepsWeek_execClose ..
  | resume => exact keepsWeek_execResume ..
  | confirmDone => exact keepsWeek_execConfirmDone ..
  | confirmFault => exact keepsWeek_execConfirmFault ..
  | readQueue => exact keepsWeek_execReadQueue ..
  | readBalance => exact keepsWeek_execReadBalance ..
  | readGauge => exact keepsWeek_execReadGauge ..
  | defineClass => exact keepsWeek_execDefineClass ..
  | defineArticle => exact keepsWeek_execDefineArticle ..
  | dropArticle => exact keepsWeek_execDropArticle ..
  | loadSlot => exact keepsWeek_execLoadSlot ..
  | readSlot => exact keepsWeek_execReadSlot ..
  | readStock => exact keepsWeek_execReadStock ..
  | store => exact keepsWeek_execStore ..
  | dropStore => exact keepsWeek_execDropStore ..
  | readStore => exact keepsWeek_execReadStore ..
  | order => exact keepsWeek_execOrder ..
  | cancel => exact keepsWeek_execCancel ..
  | readOrder => exact keepsWeek_execReadOrder ..
  | setPolicySetSpread => exact keepsWeek_execSetPolicySetSpread ..
  | setPolicyCancelMode => exact keepsWeek_execSetPolicyCancelMode ..
  | setPolicyLaneCap => exact keepsWeek_execSetPolicyLaneCap ..
  | clearLane => exact keepsWeek_execClearLane ..
  | auditSweep => exact keepsWeek_execAuditSweep ..
  | auditSuspect => exact keepsWeek_execAuditSuspect ..
  | stopAudit => exact keepsWeek_execStopAudit ..
  | readReport => exact keepsWeek_execReadReport ..
  | resolve => exact keepsWeek_execResolve ..
  | reset | readLanes | setPolicyTransitTimeout | setPolicyGaugeSpan => exact keepsWeek_next.mpr rfl
  | powerOn | resetPin | frameReceived | gapTimeout | dispatch | transmitFrame | frameSent | resetEffect | pulse | homeEdge
  | doneKey | faultKey | estopAssert | estopRelease | arrive | clearKey | pulseTimerExpiry | holdTimerExpiry
  | transitTimerExpiry | conversionComplete | receivedByte => exact keepsWeek_next.mpr rfl

theorem movesWeekOn_runRequest (i : Instr) (s : State) : MovesWeekOn s.week (runRequest i s) := by
  by_cases setsWeek : ∃ tag week, i = .setWeek tag week
  · obtain ⟨tag, week, rfl⟩ := setsWeek
    exact movesWeekOn_execSetWeek tag week s
  · push Not at setsWeek
    exact (keepsWeek_runRequest setsWeek s).movesOn

/-! ## Receiving, dispatch and sending -/

theorem movesWeekOn_dispatchFrame (f : RxFrame) (s : State) : MovesWeekOn s.week (dispatchFrame f s) := by
  unfold dispatchFrame
  split
  · exact movesWeekOn_next_of_kept rfl
  · exact movesWeekOn_next_of_kept rfl
  · exact movesWeekOn_runRequest _ s

theorem movesWeekOn_dispatchHead (s : State) : MovesWeekOn s.week (dispatchHead s) := by
  unfold dispatchHead
  split
  · exact movesWeekOn_next_of_kept rfl
  · split
    · exact movesWeekOn_dispatchFrame _ _
    · exact movesWeekOn_next_of_kept rfl

theorem movesWeekOn_acceptFrame (f : RxFrame) (s : State) : MovesWeekOn s.week (acceptFrame f s) := by
  unfold acceptFrame
  split
  · dsimp only
    split
    · exact movesWeekOn_dispatchHead _
    · exact movesWeekOn_next_of_kept rfl
  · exact movesWeekOn_next_of_kept rfl

theorem movesWeekOn_completeFrame (content : List Byte) (check : Check) (s : State) :
    MovesWeekOn s.week (completeFrame content check s) := by
  unfold completeFrame
  dsimp only
  split
  · split
    · exact movesWeekOn_acceptFrame _ _
    · exact movesWeekOn_next_of_kept rfl
  · exact movesWeekOn_next_of_kept rfl

theorem movesWeekOn_execFrameReceived (content : List Byte) (check : Check) (s : State) :
    MovesWeekOn s.week (execFrameReceived content check s) := by
  unfold execFrameReceived
  split
  · exact movesWeekOn_completeFrame content check s
  · exact movesWeekOn_next_of_kept rfl

theorem movesWeekOn_takeByte (b : Byte) (s : State) : MovesWeekOn s.week (takeByte b s) := by
  unfold takeByte
  split
  · exact movesWeekOn_next_of_kept (by split <;> simp)
  · exact movesWeekOn_next_of_kept (by split <;> simp)
  · exact movesWeekOn_next_of_kept rfl
  · exact movesWeekOn_next_of_kept rfl
  · exact movesWeekOn_completeFrame _ _ s

theorem movesWeekOn_execReceivedByte (b : Byte) (framingError : Bool) (s : State) :
    MovesWeekOn s.week (execReceivedByte b framingError s) := by
  unfold execReceivedByte
  extract_lets late gapped
  have kept : gapped.week = s.week := by
    unfold gapped
    split <;> simp
  rw [← kept]
  split
  · exact movesWeekOn_next_of_kept (by split <;> simp)
  · exact movesWeekOn_takeByte b gapped

theorem movesWeekOn_execFrameSent (s : State) : MovesWeekOn s.week (execFrameSent s) := by
  unfold execFrameSent
  dsimp only
  split
  · exact movesWeekOn_next_of_kept rfl
  · exact movesWeekOn_next_of_kept rfl
  · split
    · exact movesWeekOn_next_of_kept rfl
    · split
      · exact movesWeekOn_next_of_kept (by simp)
      · exact movesWeekOn_dispatchHead _

/-! ## Every command -/

/-- But for power-on and the RESET pin, a command moves the week on or keeps it: an event by its own lemma, and a request as if
dispatched. -/
theorem movesWeekOn_exec {i : Instr} (noPowerOn : ∀ a b, i ≠ .powerOn a b) (noResetPin : ∀ a b, i ≠ .resetPin a b)
    (s : State) : MovesWeekOn s.week (exec i s) := by
  have request := movesWeekOn_runRequest i s
  cases i with
  | powerOn a b => exact absurd rfl (noPowerOn a b)
  | resetPin a b => exact absurd rfl (noResetPin a b)
  | frameReceived content check => exact movesWeekOn_execFrameReceived content check s
  | receivedByte b framingError => exact movesWeekOn_execReceivedByte b framingError s
  | dispatch => exact movesWeekOn_dispatchHead s
  | frameSent => exact movesWeekOn_execFrameSent s
  | transmitFrame => exact (keepsWeek_execTransmitFrame s).movesOn
  | gapTimeout => exact (keepsWeek_execGapTimeout s).movesOn
  | resetEffect => exact movesWeekOn_next_of_kept s.resetEffect_week
  | pulse k => exact (keepsWeek_execPulse k s).movesOn
  | homeEdge k => exact (keepsWeek_execHomeEdge k s).movesOn
  | doneKey k => exact (keepsWeek_execDoneKey k s).movesOn
  | faultKey k => exact (keepsWeek_execFaultKey k s).movesOn
  | estopAssert => exact (keepsWeek_execEstopAssert s).movesOn
  | estopRelease => exact movesWeekOn_next_of_kept rfl
  | arrive l => exact (keepsWeek_execArrive l s).movesOn
  | clearKey l => exact (keepsWeek_execClearKey l s).movesOn
  | pulseTimerExpiry k => exact (keepsWeek_execPulseTimerExpiry k s).movesOn
  | holdTimerExpiry k place => exact (keepsWeek_execHoldTimerExpiry k place s).movesOn
  | transitTimerExpiry l => exact (keepsWeek_execTransitTimerExpiry l s).movesOn
  | conversionComplete k code => exact (keepsWeek_execConversionComplete k code s).movesOn
  | _ => exact request

/-- The week power-on and the RESET pin set. -/
theorem restart_week_of_exec {a b : Bool} {s t : State}
    (h : exec (.powerOn a b) s = .next t ∨ exec (.resetPin a b) s = .next t) : t.week = 0 := by
  rcases h with ran | ran <;> cases ran <;> rfl

/-- Settles O52: SET-WEEK by its equation, the resets by the state they answer, and every other command by `movesWeekOn_exec`. -/
theorem weekOnlyMovesOn : Obligations.WeekOnlyMovesOn := by
  have moves {i : Instr} {s t : State} (noPowerOn : ∀ a b, i ≠ .powerOn a b) (noResetPin : ∀ a b, i ≠ .resetPin a b)
      (ran : exec i s = .next t) : s.week ≤ t.week ∧ t.week ≤ max s.week 65535 := by
    obtain ⟨u, answer, moved⟩ := movesWeekOn_exec noPowerOn noResetPin s
    cases ran.symm.trans answer
    exact moved
  refine ⟨fun tag week s fits => ?setWeek, rfl, fun a b s t => restart_week_of_exec, fun s t ran => ?reset,
    fun i s t noPowerOn noResetPin ran => (moves noPowerOn noResetPin ran).1, fun i s t fits ran => ?fits, fun s w => rfl⟩
  case setWeek =>
    simp only [← max_def_lt]
    exact execSetWeek_of_le fits tag s
  case reset =>
    cases ran
    exact s.resetEffect_week
  case fits =>
    by_cases restarts : ∃ a b, i = .powerOn a b ∨ i = .resetPin a b
    · obtain ⟨a, b, power⟩ := restarts
      have zero : t.week = 0 := restart_week_of_exec (power.imp (· ▸ ran) (· ▸ ran))
      omega
    · push Not at restarts
      have bound := (moves (fun a b => (restarts a b).1) (fun a b => (restarts a b).2) ran).2
      omega

end Sys2Proof.Machine
end

section
/-! # Proofs: the count estimate of a height (R154) -/

namespace Sys2Proof.Machine

/-- The estimate is the count whose stack lies within half a width of the height, a half rounding up. Doubling both sides puts odd
and even widths in one inequality: the half that `width / 2` drops for an odd one is never reached, as both other terms are even. -/
theorem nearestCount_eq_iff {h w e : Nat} (wide : 0 < w) :
    nearestCount h w = e ↔ 2 * (e * w) ≤ 2 * h + w ∧ 2 * h < 2 * (e * w) + w := by
  rw [nearestCount, Nat.div_eq_iff wide]
  omega

theorem nearestCount_within_half_width (h : Nat) {w : Nat} (wide : 0 < w) :
    2 * (nearestCount h w * w) ≤ 2 * h + w ∧ 2 * h < 2 * (nearestCount h w * w) + w :=
  (nearestCount_eq_iff wide).mp rfl

/-- Thirty of the narrowest tyres stand more than half a width above the greatest height, and wider ones higher yet. -/
theorem nearestCount_le_of_height_le {h w : Nat} (low : h ≤ 2997) (wide : 105 ≤ w) : nearestCount h w ≤ 29 := by
  by_contra! above
  have stack : 30 * w ≤ nearestCount h w * w := Nat.mul_le_mul_right w above
  have within := (nearestCount_within_half_width h (show 0 < w by omega)).1
  omega

theorem nearestCount_of_below_half {w d : Nat} (e : Nat) (below : 2 * d < w) : nearestCount (e * w + d) w = e := by
  rw [nearestCount_eq_iff (by omega)]
  omega

/-- From half a width above a multiple on, and up to that multiple's successor, the estimate rounds up. -/
theorem nearestCount_of_half_le {w d : Nat} (e : Nat) (wide : 0 < w) (half : w ≤ 2 * d) (next : d ≤ w) :
    nearestCount (e * w + d) w = e + 1 := by
  rw [nearestCount_eq_iff wide, Nat.add_one_mul e w]
  omega

@[simp] theorem heightOf_zero (span : Nat) : heightOf 0 span = 0 := by
  simp [heightOf]

theorem nearestCount_zero {w : Nat} (wide : 0 < w) : nearestCount 0 w = 0 := by
  simpa using nearestCount_of_below_half (d := 0) 0 wide

/-- Settles O27: the nearest count and its range by `nearestCount_within_half_width`, and the ties by where the height lies above a
multiple of the width. -/
theorem estimateIsTheNearestCount : Obligations.EstimateIsTheNearestCount := by
  refine ⟨fun h w wide => ⟨rfl, nearestCount_within_half_width h wide⟩, fun h w => nearestCount_le_of_height_le,
    fun e w odd => ⟨?oddDown, ?oddUp⟩, fun e w wide even => ?evenTie, ?workedExample,
    fun w span wide => ⟨heightOf_zero span, nearestCount_zero wide⟩⟩
  case oddDown => exact nearestCount_of_below_half e (by omega)
  case oddUp => exact nearestCount_of_half_le e (by omega) (by omega) (by omega)
  case evenTie => exact nearestCount_of_half_le e wide (by omega) (by omega)
  case workedExample => exact nearestCount_of_half_le 3 (w := 205) (d := 200) (by omega) (by omega) (by omega)

end Sys2Proof.Machine
end
